-- ==== Sys2Proof/Word.lean ====
section
/-! DEFINITION. The words of the block: bytes and the fixed-length groups of bytes that its rules pass around. -/

namespace Sys2Proof

/-- The unit of both memories and of every frame (20_memory.md R65). -/
abbrev Byte := BitVec 8

/-- The 20 bytes of the packet buffer: length marker, 17 payload bytes, 2 status bytes (30_encoding.md R82). -/
abbrev Frame := Vector Byte 20

/-- The ten hub payload bytes offered at the data inputs (30_encoding.md R94). -/
abbrev HubData := Vector Byte 10

/-- Eight channel values as they are presented outside the block, 16 bits each (10_state.md R34, 30_encoding.md R93). -/
abbrev Channels := Vector (BitVec 16) 8

end Sys2Proof
end

