-- ==== Sys2Proof/Config.lean ====
section
/-! DEFINITION. What an implementation of the block fixes (00_scope.md R7, R8) and the values the spec leaves free. -/

namespace Sys2Proof

/-- The parameters that 00_scope.md R8 and 92_eei_decisions.md say a model should carry as arguments,
so that a claim can quantify over them. -/
structure Params where
  /-- `N_HOP`, the length of the hop table. -/
  nHop : Nat
  /-- `CH_MASK`, applied to every decoded channel value (D7). -/
  chMask : BitVec 16
  /-- `ID_CHECK_EN`: the block compares the identity bytes itself (D9). -/
  idCheckEn : Bool
  /-- `REPHASE_TICKS`: `none`, or the tick count loaded at every accepted frame (D16). -/
  rephaseTicks : Option Nat
  /-- `TLM_EXTRA_STEPS`: extra index steps at a hop event that opens a telemetry slot (D21). -/
  tlmExtraSteps : Nat
  /-- `EXT_TLM_EN`: extended telemetry is enabled (D23). -/
  extTlmEn : Bool
  /-- `HUB_TLM_EN`: hub telemetry is enabled (D23). -/
  hubTlmEn : Bool
  deriving DecidableEq, Repr

/-- The parameter values R8 admits: a table that the 6-bit index reaches, a re-phase of 1 to 9 ticks,
and no hub telemetry without extended telemetry (93_implementation_defined.md U10; log entry 13). -/
def Params.legal (p : Params) : Bool :=
  decide (1 ≤ p.nHop ∧ p.nHop ≤ 64) &&
  (match p.rephaseTicks with
   | none => true
   | some r => decide (1 ≤ r ∧ r ≤ 9)) &&
  (!p.hubTlmEn || p.extTlmEn)

namespace Config

/-- This hardware's parameters (00_scope.md R7, R8; log entry 13). -/
def params : Params where
  nHop := 47
  chMask := 0x0FFF
  idCheckEn := true
  rephaseTicks := none
  tlmExtraSteps := 0
  extTlmEn := false
  hubTlmEn := false

/-- `HOP_LOCKED_TICKS` (R8). -/
def hopLockedTicks : BitVec 9 := 9
/-- `HOP_RESYNC_TICKS` (R8). -/
def hopResyncTicks : BitVec 9 := 500
/-- `WINDOW_HOPS` (R7). -/
def windowHops : BitVec 7 := 100
/-- `BUF_LEN` (R8). -/
def bufLen : Nat := 20
/-- `LEN_MARKER`, byte 0 of a transmitted frame (R8, R86). PRESUMED by the spec (G6; log entry 14). -/
def lenMarker : Byte := 0x11
/-- `HUB_MAX`, the hub payload bytes that fit in frame bytes 8..17 (R8). -/
def hubMax : BitVec 4 := 10
/-- `HUB_DELIM` (R7). -/
def hubDelim : Byte := 0x5E
/-- `HUB_ESC` (R7). -/
def hubEsc : Byte := 0x5D
/-- `HUB_ESC_DELIM` (R7). -/
def hubEscDelim : Byte := 0x3E
/-- `HUB_ESC_ESC` (R7). -/
def hubEscEsc : Byte := 0x3D

/-- FREE VALUE: what the byte of `HT` with key `a` holds at power-up, before the host has written it
(70_reset_and_hazards.md R271, 93_implementation_defined.md U1: any 188 bytes; log entry 4). -/
opaque htPowerUp : Nat → Byte

end Config

end Sys2Proof
end

