-- ==== Sys2Proof/Syntax.lean ====
section
/-! DEFINITION. The block's 29 operations and the inputs that select them (30_encoding.md R80, R88 to R91, R97, R98). -/

namespace Sys2Proof

/-- The operations of 30_encoding.md R97, one constructor per row of the opcode table, with the operands
the operation's rule reads from its port. -/
inductive Instr where
  /-- `RESET`, R227. -/
  | reset
  /-- `OVF_RX`, R247. -/
  | ovfRx
  /-- `OVF_TX`, R248. -/
  | ovfTx
  /-- `OVF_BOTH`, R246. -/
  | ovfBoth
  /-- `RX_DONE`, R141. -/
  | rxDone
  /-- `TX_DONE`, R204. -/
  | txDone
  /-- `TICK`, R121. -/
  | tick
  /-- `REG_RD`, R224. -/
  | regRd (haddr : BitVec 6)
  /-- `REG_WR`, R223. -/
  | regWr (haddr : BitVec 6) (hwdata : BitVec 16)
  /-- `HT_WR`, R225. -/
  | htWr (haddr : BitVec 6) (hsub : BitVec 2) (hwdata : BitVec 16)
  /-- `START`, R221. -/
  | start
  /-- `STOP`, R222. -/
  | stop
  /-- `VALIDATE`, R142. -/
  | validate (f : Frame) (id0 id1 : Byte)
  /-- `DECODE_CH`, R146. -/
  | decodeCh (f : Frame)
  /-- `DECODE_RSSI`, R171. -/
  | decodeRssi (raw : Byte)
  /-- `ENCODE_TLM`, R147. -/
  | encodeTlm (tid a0 a1 rs id0 id1 : Byte) (nIn : BitVec 4) (d : HubData)
  /-- `HUB_STUFF`, R148. -/
  | hubStuff (sid : Byte) (val : BitVec 16)
  /-- `HOP`, R123. -/
  | hop
  /-- `TX_TIMEOUT`, R205. -/
  | txTimeout
  /-- `ADVANCE`, R124. -/
  | advance
  /-- `MISS_ACCOUNT`, R181. -/
  | missAccount
  /-- `WINDOW_EVAL`, R183. -/
  | windowEval
  /-- `TLM_OPEN`, R203. -/
  | tlmOpen
  /-- `ACCEPT`, R144. -/
  | accept
  /-- `REJECT`, R145. -/
  | reject
  /-- `LOCK_ON_FRAME`, R182. -/
  | lockOnFrame
  /-- `TLM_LATCH`, R201. -/
  | tlmLatch
  /-- `OVF_RECOVER`, R249. -/
  | ovfRecover
  /-- `NOP_EVENT`, R281. -/
  | nopEvent
  deriving DecidableEq, Repr

/-- The operands presented at the function port (45_system_ops.md R226; the bundle's widths are not given,
93_implementation_defined.md U21: DESIGN CHOICE, log entry 17). -/
structure FnArgs where
  f : Frame := Vector.replicate 20 0
  id0 : Byte := 0
  id1 : Byte := 0
  raw : Byte := 0
  tid : Byte := 0
  a0 : Byte := 0
  a1 : Byte := 0
  rs : Byte := 0
  nIn : BitVec 4 := 0
  d : HubData := Vector.replicate 10 0
  sid : Byte := 0
  val : BitVec 16 := 0
  deriving DecidableEq, Repr

/-- One input sample: the reset pin, the host command word, the event vector and the function port
(30_encoding.md R80, R88 to R91). The default is a sample in which nothing is asserted. -/
structure Sample where
  rst : Bool := false
  hw : BitVec 26 := 0
  ev : BitVec 5 := 0
  fnSel : BitVec 3 := 0
  fnArgs : FnArgs := {}
  deriving DecidableEq, Repr

/-- The sampled data inputs (30_encoding.md R94). -/
structure DataInputs where
  adc0 : Byte := 0
  adc1 : Byte := 0
  hubLen : BitVec 4 := 0
  hubData : HubData := Vector.replicate 10 0
  deriving DecidableEq, Repr

/-- One thing the block's environment does (30_encoding.md R98; log entries 1 and 10). -/
inductive Stimulus where
  /-- One input sample. -/
  | sample (smp : Sample)
  /-- The DMA agent writes the 20 bytes of a reception into `PKT` (20_memory.md R71). -/
  | dma (f : Frame)
  /-- The environment drives new values on the sampled data inputs (the script line `IN`). -/
  | inputs (d : DataInputs)
  deriving DecidableEq, Repr

/-- Why a port selects no operation. -/
inductive Reject where
  /-- `hcmd = 0` (30_encoding.md R90). -/
  | noHostCommand
  /-- No strobe and no overflow status in `ev` (30_encoding.md R88). -/
  | noEvent
  /-- `fn_sel = 0` (30_encoding.md R91). -/
  | noFunction
  /-- `fn_sel` is 6 or 7: reserved, no result and no effect (30_encoding.md R91, R95; log entry 11). -/
  | reservedFnSel (sel : BitVec 3)
  deriving DecidableEq, Repr

end Sys2Proof
end

