-- ==== Sys2Proof/Machine/State.lean ====
section
/-! DEFINITION. The block's state as plain data (10_state.md), the events on its output ports, and the state after reset. -/

namespace Sys2Proof.Machine

/-- The direction tag of the packet buffer (10_state.md R23). Code 3 is never held (93_implementation_defined.md U11). -/
inductive Dir where
  | idle
  | receivingInto
  | transmittingFrom
  deriving DecidableEq, Repr

/-- The connection state (10_state.md R24). Code 3 is never held (93_implementation_defined.md U11). -/
inductive ConnState where
  | syncing
  | locked
  | lost
  deriving DecidableEq, Repr

/-- The error kinds of 60_exceptions.md R240, in the order of their cause codes 1 to 7. -/
inductive ErrorKind where
  | radioOverflowRx
  | radioOverflowTx
  | frameTimeout
  | invalidFrame
  | transmitTimeout
  | connectionLost
  /-- Never raised by this block (R250). -/
  | bindIncomplete
  deriving DecidableEq, Repr

/-- A command on the `RADIO` port (30_encoding.md R92). -/
inductive RadioCmd where
  | setIdle
  | tune (chan fine mid coarse : Byte)
  | armRx (freqOffset : Byte)
  /-- The frame sent is `PKT[0..17]`. -/
  | armTx
  deriving DecidableEq, Repr

/-- An event on the `OUT` port (30_encoding.md R93). -/
inductive OutEvent where
  | updateChannels (chan : Channels) (linkQuality : Byte)
  | frameLost
  | connLost
  | connRestored
  | hubAck (n : BitVec 4)
  | log (code : BitVec 3)
  deriving DecidableEq, Repr

/-- The result bundle of a function-unit call (45_system_ops.md R226). -/
inductive FnResult where
  | valid (ok : Bool)
  | channels (v : Channels)
  | rssi (v : Byte)
  | telemetry (g : Frame) (n : BitVec 4)
  | stuffed (b : List Byte) (count : BitVec 3)
  deriving DecidableEq, Repr

/-- A memory of bytes: address and byte pairs, addresses strictly rising, no entry equal to what an unlisted address
reads as (log entry 19). `Memory.wf` in Ops.lean says so. -/
abbrev Memory := List Host.Cell

/-- Everything the block holds (10_state.md R20), then its output ports and its environment (the model's own fields). -/
structure State where
  /-- R22. -/
  run : Bool
  /-- R23. -/
  dir : Dir
  /-- R24. -/
  connState : ConnState
  /-- R26. -/
  channelIndex : BitVec 6
  /-- R27. -/
  hopCounter : BitVec 7
  /-- R28. -/
  rxCount : BitVec 7
  /-- R29. -/
  linkQuality : BitVec 8
  /-- R30. -/
  missedCount : BitVec 16
  /-- R31. -/
  hopTimer : BitVec 9
  /-- R32. -/
  rssi : BitVec 8
  /-- R33. -/
  tlmId : BitVec 8
  /-- R34. -/
  chan : Vector (BitVec 12) 8
  /-- R35. -/
  pktSeen : Bool
  /-- R36. -/
  tlmPending : Bool
  /-- R37, `ERR[5:0]`. -/
  err : BitVec 6
  /-- R39. -/
  txid0 : BitVec 8
  /-- R39. -/
  txid1 : BitVec 8
  /-- R40; signed, but the block never computes with it. -/
  freqOffset : BitVec 8
  /-- 20_memory.md R60, keys 0..19. -/
  pkt : Memory
  /-- 20_memory.md R61, byte `j` of entry `i` at key `4*i + j`. -/
  ht : Memory
  /-- The host read port's output (30_encoding.md R90; log entry 3). -/
  hrdata : BitVec 16
  /-- The `RADIO` commands of the current operation, oldest first (00_scope.md R12; log entry 2). -/
  radio : List RadioCmd
  /-- The `OUT` events of the current operation, oldest first (00_scope.md R12; log entry 2). -/
  out : List OutEvent
  /-- The function port's result for the current operation (45_system_ops.md R226; log entries 2 and 17). -/
  fnResult : Option FnResult
  /-- The values on the sampled data inputs (30_encoding.md R94; log entry 9). -/
  inputs : DataInputs
  /-- What the environment will still do, oldest first (30_encoding.md R98; log entry 1). -/
  script : List Stimulus
  deriving DecidableEq, Repr

/-- The block has no fault: nothing traps (30_encoding.md R95) and every operation is total (70_reset_and_hazards.md R287).
The type has no constructor, so no step can answer one (log entry 20; safe). -/
inductive Fault where
  deriving DecidableEq, Repr

/-- Why the model gives no meaning. -/
inductive Refusal where
  /-- Raised by an arm of `exec` whose instruction has no meaning yet (safe); no arm answers it. -/
  | notModelled (mnemonic : String)
  deriving DecidableEq, Repr

/-- What a meaning answers. -/
abbrev Result := Host.Outcome State Fault Refusal

/-- The state after power-up and `RESET` (70_reset_and_hazards.md R270): `PKT` all zero, no byte of `HT` written yet, nothing
emitted, `hrdata` 0. The data inputs at 0 and the empty script are the model's (log entries 1, 9 and 16). -/
def State.reset : State where
  run := false
  dir := .idle
  connState := .syncing
  channelIndex := 0
  hopCounter := 0
  rxCount := 0
  linkQuality := 0
  missedCount := 0
  hopTimer := 500
  rssi := 0
  tlmId := 0
  chan := Vector.replicate 8 0
  pktSeen := false
  tlmPending := false
  err := 0
  txid0 := 0
  txid1 := 0
  freqOffset := 0
  pkt := []
  ht := []
  hrdata := 0
  radio := []
  out := []
  fnResult := none
  inputs := {}
  script := []

end Sys2Proof.Machine
end

