-- ==== Sys2Proof/Machine/Flags.lean ====
section
/-! DEFINITION. Every flag the block has: `pktSeen`, `tlmPending` and the sticky `ERR[5:0]` (10_state.md R35 to R38).
There are no arithmetic condition codes (R38). -/

namespace Sys2Proof.Machine

/-- The cause code of an error kind (60_exceptions.md R240). -/
def ErrorKind.code : ErrorKind → BitVec 3
  | .radioOverflowRx => 1
  | .radioOverflowTx => 2
  | .frameTimeout => 3
  | .invalidFrame => 4
  | .transmitTimeout => 5
  | .connectionLost => 6
  | .bindIncomplete => 7

/-- The sticky flags an error kind sets: bit `k - 1` for cause code `k`, none for code 7
(10_state.md R37, 60_exceptions.md R240). -/
def ErrorKind.errMask : ErrorKind → BitVec 6
  | .radioOverflowRx => 0b000001
  | .radioOverflowTx => 0b000010
  | .frameTimeout => 0b000100
  | .invalidFrame => 0b001000
  | .transmitTimeout => 0b010000
  | .connectionLost => 0b100000
  | .bindIncomplete => 0b000000

/-- What an error kind emits on `OUT`: `Log(code)` for codes 1, 2, 4, 5, an event of its own for codes 3 and 6,
nothing for code 7 (60_exceptions.md R240). -/
def ErrorKind.events : ErrorKind → List OutEvent
  | .radioOverflowRx => [.log 1]
  | .radioOverflowTx => [.log 2]
  | .frameTimeout => [.frameLost]
  | .invalidFrame => [.log 4]
  | .transmitTimeout => [.log 5]
  | .connectionLost => [.connLost]
  | .bindIncomplete => []

/-- Writes `pktSeen` (10_state.md R35). -/
def setPktSeen (b : Bool) (s : State) : State := { s with pktSeen := b }

/-- Writes `tlmPending` (10_state.md R36). -/
def setTlmPending (b : Bool) (s : State) : State := { s with tlmPending := b }

/-- Clears all flags (`START`, R221, and `RESET`, R227). -/
def clearFlags (s : State) : State := { s with pktSeen := false, tlmPending := false, err := 0 }

end Sys2Proof.Machine
end

