-- ==== Sys2Proof/Machine/Ops.lean ====
section
/-! DEFINITION. The named operations over memories, output ports and the direction tag, and `raise`, the one shared operation
by which an error is recorded (60_exceptions.md R241). There is no return from an error (R253). -/

namespace Sys2Proof.Machine

/-! ### Memories (20_memory.md) -/

/-- The entry for address `a`, if the memory lists one. -/
def Memory.find? : Memory → Nat → Option Byte
  | [], _ => none
  | (b, w) :: m, a => if a = b then some w else Memory.find? m a

/-- Lists `v` at address `a`, keeping the addresses rising. -/
def Memory.insert : Memory → Nat → Byte → Memory
  | [], a, v => [(a, v)]
  | (b, w) :: m, a, v =>
    if a < b then (a, v) :: (b, w) :: m
    else if a = b then (a, v) :: m
    else (b, w) :: Memory.insert m a v

/-- Lists nothing at address `a`. -/
def Memory.erase : Memory → Nat → Memory
  | [], _ => []
  | (b, w) :: m, a => if a = b then Memory.erase m a else (b, w) :: Memory.erase m a

/-- Writes one byte. `fill` is what an unlisted address reads as, `none` where that is no value. -/
def Memory.write (fill : Option Byte) (m : Memory) (a : Nat) (v : Byte) : Memory :=
  if fill = some v then Memory.erase m a else Memory.insert m a v

/-- Writes bytes at rising addresses from `a` on. -/
def Memory.writeAll (fill : Option Byte) : Memory → Nat → List Byte → Memory
  | m, _, [] => m
  | m, a, v :: vs => Memory.writeAll fill (Memory.write fill m a v) (a + 1) vs

/-- The canonical form: every address is at least `lo` and below `size`, addresses rise strictly, and no entry is what
an unlisted address reads as (log entry 19). -/
def Memory.wfFrom (fill : Option Byte) (size : Nat) : Nat → Memory → Bool
  | _, [] => true
  | lo, (a, v) :: m => decide (lo ≤ a ∧ a < size ∧ fill ≠ some v) && Memory.wfFrom fill size (a + 1) m

/-- The canonical form of a memory of `size` bytes. -/
def Memory.wf (fill : Option Byte) (size : Nat) (m : Memory) : Bool := Memory.wfFrom fill size 0 m

/-- An unlisted byte of `PKT` is 0x00, its value after reset (70_reset_and_hazards.md R270). -/
def pktFill : Option Byte := some 0

/-- An unlisted byte of `HT` has no value the spec gives: it was not written since power-up (R271; log entry 4). -/
def htFill : Option Byte := none

/-- `PKT[i]` (00_scope.md R11). -/
def pktRead (s : State) (i : Nat) : Byte := (Memory.find? s.pkt i).getD 0

/-- `PKT[i] <- v` (00_scope.md R11). -/
def pktWrite (i : Nat) (v : Byte) (s : State) : State := { s with pkt := Memory.write pktFill s.pkt i v }

/-- The 20 bytes of `PKT` (20_memory.md R60). -/
def pktFrame (s : State) : Frame := Vector.ofFn fun i : Fin 20 => pktRead s i.val

/-- `PKT[0..19] <- f` (20_memory.md R71). -/
def storeFrame (f : Frame) (s : State) : State := { s with pkt := Memory.writeAll pktFill s.pkt 0 f.toList }

/-- The key of byte `j` of hop-table entry `i` (20_memory.md R61; log entry 19). -/
def htKey (i j : Nat) : Nat := 4 * i + j

/-- The byte of `HT` with key `a`; one that nothing has written is the free power-up value (R271; log entry 4). -/
def htRead (s : State) (a : Nat) : Byte := (Memory.find? s.ht a).getD (Config.htPowerUp a)

/-- Writes the byte of `HT` with key `a`. -/
def htWrite (a : Nat) (v : Byte) (s : State) : State := { s with ht := Memory.write htFill s.ht a v }

/-! ### Output ports (00_scope.md R12) -/

/-- `emit RADIO.c`. -/
def emitRadio (c : RadioCmd) (s : State) : State := { s with radio := s.radio ++ [c] }

/-- `emit OUT.e`. -/
def emitOut (e : OutEvent) (s : State) : State := { s with out := s.out ++ [e] }

/-- `dir <- d` (10_state.md R23). -/
def setDir (d : Dir) (s : State) : State := { s with dir := d }

/-- The `TUNE` command for hop-table entry `i`: channel, fine, mid, coarse (30_encoding.md R92). -/
def tuneCmd (s : State) (i : Nat) : RadioCmd :=
  .tune (htRead s (htKey i 0)) (htRead s (htKey i 1)) (htRead s (htKey i 2)) (htRead s (htKey i 3))

/-- `emit RADIO.ARM_RX(freqOffset); dir <- ReceivingInto`. -/
def armReceive (s : State) : State := setDir .receivingInto (emitRadio (.armRx s.freqOffset) s)

/-! ### Errors and ignored events -/

/-- `raise K`: the recording of error kind `K` and nothing else; the operation goes on (60_exceptions.md R241; log entry 18). -/
def raise (k : ErrorKind) (s : State) : State := { s with err := s.err ||| k.errMask, out := s.out ++ k.events }

/-- An event that changes nothing and emits nothing (70_reset_and_hazards.md R281). -/
def ignoreEvent (s : State) : State := s

/-- An operation that is invoked while `run = 0` does nothing (40_hop_scheduler.md R120). -/
def whenRunning (f : State → State) (s : State) : State := if s.run then f s else ignoreEvent s

/-- The port lists of a new operation are empty (00_scope.md R12; log entry 2). -/
def beginOp (s : State) : State := { s with radio := [], out := [], fnResult := none }

/-! ### Numbers (00_scope.md R9) -/

/-- `sat_16`. -/
def sat16 (v : Nat) : BitVec 16 := BitVec.ofNat 16 (min v 65535)

end Sys2Proof.Machine
end

