-- ==== Sys2Proof/Machine/Operands.lean ====
section
/-! DEFINITION. Operand forms: the fields of the inbound frame (30_encoding.md R83 to R85), the channel positions (R84) with
their inverse, and the register numbers (10_state.md R42). -/

namespace Sys2Proof.Machine

/-! ### Fields of the inbound frame -/

/-- `SEQ_POS` (00_scope.md R8). PRESUMED by the spec (G1; log entry 14). -/
def seqPos : Nat := 3
/-- `TLMID_POS` (00_scope.md R8). PRESUMED by the spec (G2; log entry 14). -/
def tlmIdPos : Nat := 4
/-- `RSSI_POS` (00_scope.md R8). -/
def rssiPos : Nat := 18
/-- `STATUS_POS` (00_scope.md R8). -/
def statusPos : Nat := 19

/-- `CRC_OK_BIT` of the trailing status byte (30_encoding.md R85). PRESUMED by the spec (G5; log entry 14). -/
def crcOk (status : Byte) : Bool := status.getLsbD 7

/-- `LO(k)`, the byte with the low 8 bits of channel `k` (30_encoding.md R84; log entry 14). -/
def loPos : Vector (Fin 20) 8 := #v[6, 7, 8, 9, 12, 13, 14, 15]

/-- `NB(k)`, the byte with the upper nibble of channel `k` (30_encoding.md R84; log entry 14). -/
def nibblePos : Vector (Fin 20) 8 := #v[10, 10, 11, 11, 16, 16, 17, 17]

/-- The nibble of channel `k` in its nibble byte: low for even `k`, high for odd `k` (30_encoding.md R84). -/
def nibbleOf (k : Nat) (b : Byte) : BitVec 4 := if k % 2 = 0 then b.extractLsb' 0 4 else b.extractLsb' 4 4

/-- The 12-bit field of channel `k` (30_encoding.md R84). -/
def channelField (f : Frame) (k : Fin 8) : BitVec 12 := nibbleOf k.val f[nibblePos[k]] ++ f[loPos[k]]

/-- `ENCODE_CH`, the twelve frame bytes 6..17 of eight channel values (95_test_vectors.md section 2): the inverse placement
of R84. -/
def encodeCh (ch : Channels) : Vector Byte 12 :=
  let lo (k : Fin 8) : Byte := ch[k].extractLsb' 0 8
  let nib (k : Fin 8) : BitVec 4 := ch[k].extractLsb' 8 4
  #v[lo 0, lo 1, lo 2, lo 3, nib 1 ++ nib 0, nib 3 ++ nib 2, lo 4, lo 5, lo 6, lo 7, nib 5 ++ nib 4, nib 7 ++ nib 6]

/-- The 20 bytes of the pseudo-instruction `RXFRAME` (30_encoding.md R99). -/
def rxFrame (id0 id1 seq tid : Byte) (ch : Channels) (rssi : Byte) (lqi : BitVec 7) (crc : Bool) : Frame :=
  let p := encodeCh ch
  #v[0x11, id0, id1, seq, tid, 0, p[0], p[1], p[2], p[3], p[4], p[5], p[6], p[7], p[8], p[9], p[10], p[11],
     rssi, BitVec.ofBool crc ++ lqi]

/-! ### Registers (10_state.md R42, 45_system_ops.md R224) -/

/-- The code of `dir` (10_state.md R23). -/
def Dir.code : Dir → BitVec 2
  | .idle => 0
  | .receivingInto => 1
  | .transmittingFrom => 2

/-- The code of `connState` (10_state.md R24). -/
def ConnState.code : ConnState → BitVec 2
  | .syncing => 0
  | .locked => 1
  | .lost => 2

/-- `chan[k]` presented as 16 bits (10_state.md R34). -/
def chanValues (s : State) : Channels := s.chan.map (BitVec.setWidth 16)

/-- Register number `n` of the space `REG`: unlisted bits and reserved numbers read 0 (10_state.md R42). -/
def regValue (s : State) (n : Nat) : BitVec 16 :=
  match n with
  | 0 => (BitVec.ofBool s.run).setWidth 16
  | 1 => s.txid1 ++ s.txid0
  | 2 => s.freqOffset.setWidth 16
  | 3 => (0 : BitVec 10) ++ BitVec.ofBool s.tlmPending ++ BitVec.ofBool s.pktSeen ++ s.dir.code ++ s.connState.code
  | 4 => s.channelIndex.setWidth 16
  | 5 => s.hopCounter.setWidth 16
  | 6 => s.rxCount.setWidth 16
  | 7 => s.linkQuality.setWidth 16
  | 8 => s.missedCount
  | 9 => s.rssi.setWidth 16
  | 10 => s.tlmId.setWidth 16
  | 11 => s.hopTimer.setWidth 16
  | 12 => s.err.setWidth 16
  | n => if h : 16 ≤ n ∧ n < 24 then (chanValues s)[n - 16]'(by omega) else 0

end Sys2Proof.Machine
end

