-- ==== Sys2Proof/Machine/Loss.lean ====
section
/-! DEFINITION. The connection-loss detector (43_loss_detector.md): `MISS_ACCOUNT`, `LOCK_ON_FRAME`, `WINDOW_EVAL`. -/

namespace Sys2Proof.Machine

/-- `MISS_ACCOUNT` (R181). -/
def missAccount (s : State) : State :=
  setPktSeen false
    (if s.pktSeen then s
     else raise .frameTimeout { s with missedCount := sat16 (s.missedCount.toNat + 1) })

/-- `LOCK_ON_FRAME` line 2 (R182): the transition into `Locked`. -/
def lockNow (s : State) : State :=
  { emitOut .connRestored { s with connState := .locked } with hopTimer := Config.hopLockedTicks }

/-- `LOCK_ON_FRAME` line 3 (R182): the re-phase that D16 leaves open. -/
def rephase (p : Params) (s : State) : State :=
  match p.rephaseTicks with
  | none => s
  | some r => { s with hopTimer := BitVec.ofNat 9 r }

/-- `LOCK_ON_FRAME` (R182). -/
def lockOnFrame (p : Params) (s : State) : State :=
  rephase p (if s.connState = .locked then s else lockNow s)

/-- The transition that `WINDOW_EVAL` makes (R183), before the counts are moved. -/
def windowTransition (s : State) : State :=
  if s.rxCount = 0 then
    if s.connState = .lost then s else raise .connectionLost { s with connState := .lost }
  else
    if s.connState = .locked then s else emitOut .connRestored { s with connState := .locked }

/-- `WINDOW_EVAL` (R183). -/
def windowEval (s : State) : State :=
  { windowTransition s with linkQuality := s.rxCount.setWidth 8, rxCount := 0 }

/-- `MISS_ACCOUNT` invoked on its own (log entry 7). -/
def execMissAccount (s : State) : Result := .next (whenRunning missAccount s)

/-- `LOCK_ON_FRAME` invoked on its own (log entry 7). -/
def execLockOnFrame (s : State) : Result := .next (whenRunning (lockOnFrame Config.params) s)

/-- `WINDOW_EVAL` invoked on its own (log entry 7). -/
def execWindowEval (s : State) : Result := .next (whenRunning windowEval s)

end Sys2Proof.Machine
end

