-- ==== Sys2Proof/Machine/Functions.lean ====
section
/-! DEFINITION. The five pure function units and their calls through the function port (45_system_ops.md R226): a call reads no
register, no memory and no data input, and writes nothing but the port's result. -/

namespace Sys2Proof.Machine

/-! ### The units -/

/-- `VALIDATE` (41_framer_validator.md R142). -/
def validateFrame (p : Params) (f : Frame) (id0 id1 : Byte) : Bool :=
  crcOk f[19] && (!p.idCheckEn || (f[1] == id0 && f[2] == id1))

/-- `DECODE_CH` (41_framer_validator.md R146). -/
def decodeChannels (p : Params) (f : Frame) : Channels :=
  Vector.ofFn fun k : Fin 8 => (channelField f k).setWidth 16 &&& p.chMask

/-- `DECODE_RSSI` (42_rssi_decoder.md R171, R172): the product is not truncated, the result is its low 8 bits (R173). -/
def decodeRssiByte (raw : Byte) : Byte :=
  let t : Int := ((raw.toNat * 18) >>> 5 : Nat)
  if 128 ≤ raw.toNat then BitVec.ofInt 8 (t - 82) else BitVec.ofInt 8 (t + 65)

/-- The hub payload length that `ENCODE_TLM` takes (41_framer_validator.md R147; lengths 11..15 count as 10, R94). -/
def hubLength (p : Params) (nIn : BitVec 4) : BitVec 4 :=
  if p.hubTlmEn then (if nIn.toNat < Config.hubMax.toNat then nIn else Config.hubMax) else 0

/-- `ENCODE_TLM` (41_framer_validator.md R147, 30_encoding.md R86): the frame and the payload length taken. -/
def encodeTelemetry (p : Params) (tid a0 a1 rs id0 id1 : Byte) (nIn : BitVec 4) (d : HubData) : Frame × BitVec 4 :=
  let n := hubLength p nIn
  let ext (b : Byte) : Byte := if p.extTlmEn then b else 0
  let tail (i : Fin 10) : Byte := if i.val < n.toNat then d[i] else 0
  (#v[Config.lenMarker, id0, id1, a0, a1, rs, ext (n.setWidth 8), ext tid,
      tail 0, tail 1, tail 2, tail 3, tail 4, tail 5, tail 6, tail 7, tail 8, tail 9, 0, 0], n)

/-- One value byte, escaped if it is the delimiter or the escape marker (30_encoding.md R87). -/
def stuffByte (b : Byte) : List Byte :=
  if b = Config.hubDelim then [Config.hubEsc, Config.hubEscDelim]
  else if b = Config.hubEsc then [Config.hubEsc, Config.hubEscEsc]
  else [b]

/-- `HUB_STUFF` (41_framer_validator.md R148): header, sensor id unstuffed, low byte, high byte, footer. -/
def hubStuffBytes (sid : Byte) (val : BitVec 16) : List Byte :=
  [Config.hubDelim, sid] ++ stuffByte (val.extractLsb' 0 8) ++ stuffByte (val.extractLsb' 8 8) ++ [Config.hubDelim]

/-! ### The calls -/

/-- Presents a result at the function port. -/
def setFnResult (r : FnResult) (s : State) : State := { s with fnResult := some r }

/-- `VALIDATE` at the function port (`fn_sel = 1`). -/
def execValidate (f : Frame) (id0 id1 : Byte) (s : State) : Result :=
  .next (setFnResult (.valid (validateFrame Config.params f id0 id1)) s)

/-- `DECODE_CH` at the function port (`fn_sel = 2`). -/
def execDecodeCh (f : Frame) (s : State) : Result :=
  .next (setFnResult (.channels (decodeChannels Config.params f)) s)

/-- `DECODE_RSSI` at the function port (`fn_sel = 3`). -/
def execDecodeRssi (raw : Byte) (s : State) : Result :=
  .next (setFnResult (.rssi (decodeRssiByte raw)) s)

/-- `ENCODE_TLM` at the function port (`fn_sel = 4`). -/
def execEncodeTlm (tid a0 a1 rs id0 id1 : Byte) (nIn : BitVec 4) (d : HubData) (s : State) : Result :=
  let (g, n) := encodeTelemetry Config.params tid a0 a1 rs id0 id1 nIn d
  .next (setFnResult (.telemetry g n) s)

/-- `HUB_STUFF` at the function port (`fn_sel = 5`); `count` counts header and footer (R148). -/
def execHubStuff (sid : Byte) (val : BitVec 16) (s : State) : Result :=
  let b := hubStuffBytes sid val
  .next (setFnResult (.stuffed b (BitVec.ofNat 3 b.length)) s)

end Sys2Proof.Machine
end

