-- ==== Sys2Proof/Machine/Telemetry.lean ====
section
/-! DEFINITION. The telemetry slot arbiter (44_telemetry_arbiter.md): `TLM_LATCH`, `TLM_OPEN`, `TX_DONE`, `TX_TIMEOUT`. -/

namespace Sys2Proof.Machine

/-- `TLM_LATCH` (R201). -/
def tlmLatch (s : State) : State :=
  if (pktRead s seqPos).toNat % 4 = 2 then { setTlmPending true s with tlmId := pktRead s tlmIdPos } else s

/-- The reply that `TLM_OPEN` builds, and its hub payload length (R203 line 1). -/
def tlmReply (p : Params) (s : State) : Frame × BitVec 4 :=
  encodeTelemetry p s.tlmId s.inputs.adc0 s.inputs.adc1 s.rssi s.txid0 s.txid1 s.inputs.hubLen s.inputs.hubData

/-- `OUT.HubAck(n)` where hub telemetry is enabled (R203 line 3). -/
def hubAckIf (p : Params) (n : BitVec 4) (s : State) : State := if p.hubTlmEn then emitOut (.hubAck n) s else s

/-- `TLM_OPEN` (R203). -/
def tlmOpen (p : Params) (s : State) : State :=
  setTlmPending false (setDir .transmittingFrom (emitRadio .armTx
    (hubAckIf p (tlmReply p s).2 (storeFrame (tlmReply p s).1 s))))

/-- `TX_TIMEOUT` (R205). -/
def txTimeout (s : State) : State := raise .transmitTimeout s

/-- `TLM_LATCH` invoked on its own (log entry 7). -/
def execTlmLatch (s : State) : Result := .next (whenRunning tlmLatch s)

/-- `TLM_OPEN` invoked on its own (log entry 7). -/
def execTlmOpen (s : State) : Result := .next (whenRunning (tlmOpen Config.params) s)

/-- `TX_TIMEOUT` invoked on its own (log entry 7). -/
def execTxTimeout (s : State) : Result := .next (whenRunning txTimeout s)

/-- `TX_DONE` (R204). -/
def execTxDone (s : State) : Result :=
  .next (if s.run = true ∧ s.dir = .transmittingFrom then armReceive s else ignoreEvent s)

end Sys2Proof.Machine
end

