-- ==== Sys2Proof/Machine/Framer.lean ====
section
/-! DEFINITION. The inbound path of the framer (41_framer_validator.md): `RX_DONE`, `ACCEPT`, `REJECT`. -/

namespace Sys2Proof.Machine

/-- `ACCEPT` lines 4 to 6 (R144): the decoded values are stored and sent downstream. The registers hold 12 of the 16 bits
that `DECODE_CH` gives, the other four being 0 (10_state.md R34; log entry 23). -/
def acceptValues (p : Params) (s : State) : State :=
  let s := { s with rssi := decodeRssiByte (pktRead s rssiPos),
                    chan := (decodeChannels p (pktFrame s)).map (BitVec.setWidth 12) }
  emitOut (.updateChannels (chanValues s) s.linkQuality) s

/-- `ACCEPT` (R144). -/
def accept (p : Params) (s : State) : State :=
  let s := { setPktSeen true s with rxCount := s.rxCount + 1 }
  let s := lockOnFrame p s
  let s := acceptValues p s
  let s := tlmLatch s
  setDir .idle (pktWrite statusPos 0 s)

/-- `REJECT` (R145). -/
def reject (s : State) : State := emitRadio (.armRx s.freqOffset) (raise .invalidFrame s)

/-- The frame in `PKT` passes `VALIDATE` against the block's identity (R141). -/
def pktValid (p : Params) (s : State) : Bool := validateFrame p (pktFrame s) s.txid0 s.txid1

/-- `RX_DONE` (R141). -/
def rxDone (p : Params) (s : State) : State :=
  if s.run = true ∧ s.dir = .receivingInto then
    if pktValid p s then accept p s else reject s
  else ignoreEvent s

/-- `RX_DONE` in this hardware. -/
def execRxDone (s : State) : Result := .next (rxDone Config.params s)

/-- `ACCEPT` invoked on its own (log entry 7). -/
def execAccept (s : State) : Result := .next (whenRunning (accept Config.params) s)

/-- `REJECT` invoked on its own (log entry 7). -/
def execReject (s : State) : Result := .next (whenRunning reject s)

end Sys2Proof.Machine
end

