-- ==== Sys2Proof/Machine/Hop.lean ====
section
/-! DEFINITION. The hop scheduler (40_hop_scheduler.md): `TICK`, `HOP`, `ADVANCE`. -/

namespace Sys2Proof.Machine

/-- The index that `ADVANCE` reaches (R124). -/
def nextIndex (p : Params) (tlmPending : Bool) (index : BitVec 6) : BitVec 6 :=
  BitVec.ofNat 6 ((index.toNat + (1 + if tlmPending then p.tlmExtraSteps else 0)) % p.nHop)

/-- `ADVANCE` (R124). -/
def advance (p : Params) (s : State) : State :=
  { s with channelIndex := nextIndex p s.tlmPending s.channelIndex }

/-- The interval law (R122). -/
def hopInterval (c : ConnState) : BitVec 9 :=
  if c = .locked then Config.hopLockedTicks else Config.hopResyncTicks

/-- `HOP` line 1 (R123). -/
def hopTimeout (s : State) : State := if s.dir = .transmittingFrom then txTimeout s else s

/-- `HOP` lines 4 and 5 (R123, R125). -/
def hopCount (s : State) : State :=
  if s.hopCounter + 1 = Config.windowHops then
    { windowEval { s with hopCounter := s.hopCounter + 1 } with hopCounter := 0 }
  else { s with hopCounter := s.hopCounter + 1 }

/-- `HOP` line 6 (R122, R123). -/
def hopReload (s : State) : State := { s with hopTimer := hopInterval s.connState }

/-- `HOP` lines 7 and 8 (R123). -/
def hopTune (s : State) : State := emitRadio (tuneCmd s s.channelIndex.toNat) (emitRadio .setIdle s)

/-- `HOP` lines 9 and 10 (R123). -/
def hopArm (p : Params) (s : State) : State := if s.tlmPending then tlmOpen p s else armReceive s

/-- `HOP` (R123), its ten lines in order. -/
def hop (p : Params) (s : State) : State :=
  let s := hopTimeout s
  let s := advance p s
  let s := missAccount s
  let s := hopCount s
  let s := hopReload s
  let s := hopTune s
  hopArm p s

/-- `TICK` of a running block (R121). -/
def tick (p : Params) (s : State) : State :=
  let s := { s with hopTimer := s.hopTimer - 1 }
  if s.hopTimer = 0 then hop p s else s

/-- `TICK` in this hardware. -/
def execTick (s : State) : Result := .next (whenRunning (tick Config.params) s)

/-- `HOP` invoked on its own (log entry 7). -/
def execHop (s : State) : Result := .next (whenRunning (hop Config.params) s)

/-- `ADVANCE` invoked on its own (log entry 7). -/
def execAdvance (s : State) : Result := .next (whenRunning (advance Config.params) s)

end Sys2Proof.Machine
end

