-- ==== Sys2Proof/Machine/Overflow.lean ====
section
/-! DEFINITION. The overflow operations (60_exceptions.md R246 to R249) and the ignored event (70_reset_and_hazards.md R281). -/

namespace Sys2Proof.Machine

/-- `OVF_RECOVER` (R249). -/
def ovfRecover (s : State) : State :=
  if s.dir = .idle then emitRadio .setIdle s else armReceive (emitRadio .setIdle s)

/-- `OVF_RX` of a running block (R247). -/
def ovfRx (s : State) : State := ovfRecover (raise .radioOverflowRx s)

/-- `OVF_TX` of a running block (R248). -/
def ovfTx (s : State) : State := ovfRecover (raise .radioOverflowTx s)

/-- `OVF_BOTH` of a running block (R246). -/
def ovfBoth (s : State) : State := ovfRecover (raise .radioOverflowTx (raise .radioOverflowRx s))

/-- `OVF_RX` (R247). -/
def execOvfRx (s : State) : Result := .next (whenRunning ovfRx s)

/-- `OVF_TX` (R248). -/
def execOvfTx (s : State) : Result := .next (whenRunning ovfTx s)

/-- `OVF_BOTH` (R246). -/
def execOvfBoth (s : State) : Result := .next (whenRunning ovfBoth s)

/-- `OVF_RECOVER` invoked on its own (log entry 7). -/
def execOvfRecover (s : State) : Result := .next (whenRunning ovfRecover s)

/-- `NOP_EVENT` (R281). -/
def execNopEvent (s : State) : Result := .next (ignoreEvent s)

end Sys2Proof.Machine
end

