-- ==== Sys2Proof/Machine/System.lean ====
section
/-! DEFINITION. The host and system operations (45_system_ops.md): `START`, `STOP`, `REG_WR`, `REG_RD`, `HT_WR`, `RESET`. -/

namespace Sys2Proof.Machine

/-- The registers that `START` sets (R221). -/
def startRegisters (s : State) : State :=
  { clearFlags s with
    run := true, connState := .syncing, channelIndex := 0, hopCounter := 0, rxCount := 0, linkQuality := 0,
    missedCount := 0, hopTimer := Config.hopResyncTicks }

/-- `START` of a halted block (R221). -/
def startBlock (s : State) : State :=
  let s := pktWrite statusPos 0 (startRegisters s)
  armReceive (emitRadio (tuneCmd s 0) (emitRadio .setIdle s))

/-- `STOP` of a running block (R222). -/
def stopBlock (s : State) : State := { setDir .idle (emitRadio .setIdle s) with run := false }

/-- A write to `CTRL` with `hwdata[0] = b`: `START`, `STOP` or nothing (R223, 10_state.md R42). -/
def ctrlWrite (b : Bool) (s : State) : State :=
  if b = true ∧ s.run = false then startBlock s
  else if b = false ∧ s.run = true then stopBlock s
  else s

/-- `REG_WR` (R223). -/
def regWrite (haddr : BitVec 6) (hwdata : BitVec 16) (s : State) : State :=
  if haddr = 0 then ctrlWrite (hwdata.getLsbD 0) s
  else if haddr = 1 ∧ s.run = false then
    { s with txid0 := hwdata.extractLsb' 0 8, txid1 := hwdata.extractLsb' 8 8 }
  else if haddr = 2 ∧ s.run = false then { s with freqOffset := hwdata.extractLsb' 0 8 }
  else s

/-- `HT_WR` (R225). -/
def htTableWrite (p : Params) (haddr : BitVec 6) (hsub : BitVec 2) (hwdata : BitVec 16) (s : State) : State :=
  if s.run = false ∧ haddr.toNat < p.nHop then
    htWrite (htKey haddr.toNat hsub.toNat) (hwdata.extractLsb' 0 8) s
  else s

/-- `RESET` (R227, 70_reset_and_hazards.md R270): `HT` is not written, nothing is emitted, `hrdata` is 0 (log entry 3). -/
def resetBlock (s : State) : State :=
  { clearFlags s with
    run := false, dir := .idle, connState := .syncing,
    channelIndex := 0, hopCounter := 0, rxCount := 0, linkQuality := 0, missedCount := 0,
    hopTimer := Config.hopResyncTicks, rssi := 0, tlmId := 0, chan := Vector.replicate 8 0,
    txid0 := 0, txid1 := 0, freqOffset := 0, pkt := [], hrdata := 0 }

/-- `START`: a `CTRL` write with bit 0 set is one only while halted (R221 e; log entry 6). -/
def execStart (s : State) : Result := .next (if s.run then ignoreEvent s else startBlock s)

/-- `STOP`: a `CTRL` write with bit 0 clear is one only while running (R222; log entry 6). -/
def execStop (s : State) : Result := .next (whenRunning stopBlock s)

/-- `REG_WR` (R223). -/
def execRegWr (haddr : BitVec 6) (hwdata : BitVec 16) (s : State) : Result := .next (regWrite haddr hwdata s)

/-- `REG_RD` (R224): no side effect beyond the read port's output. -/
def execRegRd (haddr : BitVec 6) (s : State) : Result := .next { s with hrdata := regValue s haddr.toNat }

/-- `HT_WR` in this hardware (R225). -/
def execHtWr (haddr : BitVec 6) (hsub : BitVec 2) (hwdata : BitVec 16) (s : State) : Result :=
  .next (htTableWrite Config.params haddr hsub hwdata s)

/-- `RESET` (R227). -/
def execReset (s : State) : Result := .next (resetBlock s)

end Sys2Proof.Machine
end

