-- ==== Sys2Proof/Machine/Dispatch.lean ====
section
/-! DEFINITION. The meaning of every operation of the opcode table, one arm per constructor of `Instr`. -/

namespace Sys2Proof.Machine

/-- Runs one operation; it appends to the port lists and leaves the script alone. -/
def exec (i : Instr) (s : State) : Host.Outcome State Fault Refusal :=
  match i with
  | .reset => Sys2Proof.Machine.execReset s
  | .ovfRx => Sys2Proof.Machine.execOvfRx s
  | .ovfTx => Sys2Proof.Machine.execOvfTx s
  | .ovfBoth => Sys2Proof.Machine.execOvfBoth s
  | .rxDone => Sys2Proof.Machine.execRxDone s
  | .txDone => Sys2Proof.Machine.execTxDone s
  | .tick => Sys2Proof.Machine.execTick s
  | .regRd haddr => Sys2Proof.Machine.execRegRd haddr s
  | .regWr haddr hwdata => Sys2Proof.Machine.execRegWr haddr hwdata s
  | .htWr haddr hsub hwdata => Sys2Proof.Machine.execHtWr haddr hsub hwdata s
  | .start => Sys2Proof.Machine.execStart s
  | .stop => Sys2Proof.Machine.execStop s
  | .validate f id0 id1 => Sys2Proof.Machine.execValidate f id0 id1 s
  | .decodeCh f => Sys2Proof.Machine.execDecodeCh f s
  | .decodeRssi raw => Sys2Proof.Machine.execDecodeRssi raw s
  | .encodeTlm tid a0 a1 rs id0 id1 nIn d => Sys2Proof.Machine.execEncodeTlm tid a0 a1 rs id0 id1 nIn d s
  | .hubStuff sid val => Sys2Proof.Machine.execHubStuff sid val s
  | .hop => Sys2Proof.Machine.execHop s
  | .txTimeout => Sys2Proof.Machine.execTxTimeout s
  | .advance => Sys2Proof.Machine.execAdvance s
  | .missAccount => Sys2Proof.Machine.execMissAccount s
  | .windowEval => Sys2Proof.Machine.execWindowEval s
  | .tlmOpen => Sys2Proof.Machine.execTlmOpen s
  | .accept => Sys2Proof.Machine.execAccept s
  | .reject => Sys2Proof.Machine.execReject s
  | .lockOnFrame => Sys2Proof.Machine.execLockOnFrame s
  | .tlmLatch => Sys2Proof.Machine.execTlmLatch s
  | .ovfRecover => Sys2Proof.Machine.execOvfRecover s
  | .nopEvent => Sys2Proof.Machine.execNopEvent s

end Sys2Proof.Machine
end

