-- ==== Sys2Proof/WellFormed.lean ====
section
/-! DEFINITION. Which terms of `Instr` are the decoder's own reading of an encoding. Every other condition on an
operand is carried by its type. -/

namespace Sys2Proof

/-- The operation has an external encoding; the micro-operations have none (30_encoding.md R80, R97). -/
def Instr.encodable : Instr → Bool
  | .reset | .ovfRx | .ovfTx | .ovfBoth | .rxDone | .txDone | .tick => true
  | .regRd _ | .regWr _ _ | .htWr _ _ _ | .start | .stop => true
  | .validate _ _ _ | .decodeCh _ | .decodeRssi _ | .encodeTlm _ _ _ _ _ _ _ _ | .hubStuff _ _ => true
  | .hop | .txTimeout | .advance | .missAccount | .windowEval | .tlmOpen => false
  | .accept | .reject | .lockOnFrame | .tlmLatch | .ovfRecover | .nopEvent => false

/-- A write of `CTRL` (register 0) is written `START` or `STOP`, never `REG_WR` (30_encoding.md R90; log entry 6).
`REG_WR` with `haddr = 0` still has its meaning (R223); it is only not the decoder's reading of a word. -/
def Instr.wf : Instr → Bool
  | .regWr haddr _ => haddr != 0
  | _ => true

end Sys2Proof
end

