-- ==== Sys2Proof/Decode.lean ====
section
/-! DEFINITION. The decoder of the four encoding spaces (30_encoding.md R80, R88 to R91) and, after it, the encoder.
`decodeSample` answers the operation of a sample that is served next and what is left of the sample. -/

namespace Sys2Proof

/-! ### Fields of the host word (30_encoding.md R90) -/

/-- `hcmd = hw[25:24]`. -/
def hostCmd (hw : BitVec 26) : BitVec 2 := hw.extractLsb' 24 2
/-- `haddr = hw[23:18]`. -/
def hostAddr (hw : BitVec 26) : BitVec 6 := hw.extractLsb' 18 6
/-- `hsub = hw[17:16]`. -/
def hostSub (hw : BitVec 26) : BitVec 2 := hw.extractLsb' 16 2
/-- `hwdata = hw[15:0]`. -/
def hostData (hw : BitVec 26) : BitVec 16 := hw.extractLsb' 0 16

/-- The operation a host word selects (30_encoding.md R90). A word with `haddr = 0` is `START` or `STOP` by
`hwdata[0]`; whether it acts is decided by `run` in their meanings (log entry 6). -/
def decodeHost (hw : BitVec 26) : Except Reject Instr :=
  if hostCmd hw = 1 then .ok (.regRd (hostAddr hw))
  else if hostCmd hw = 2 then
    if hostAddr hw = 0 then
      if (hostData hw).getLsbD 0 then .ok .start else .ok .stop
    else .ok (.regWr (hostAddr hw) (hostData hw))
  else if hostCmd hw = 3 then .ok (.htWr (hostAddr hw) (hostSub hw) (hostData hw))
  else .error .noHostCommand

/-! ### The event vector (30_encoding.md R88, R89) -/

/-- `ovf = ev[4:3]`. -/
def evOvf (ev : BitVec 5) : BitVec 2 := ev.extractLsb' 3 2
/-- `rx_done = ev[2]`. -/
def evRxDone (ev : BitVec 5) : Bool := ev.getLsbD 2
/-- `tx_done = ev[1]`. -/
def evTxDone (ev : BitVec 5) : Bool := ev.getLsbD 1
/-- `tick = ev[0]`. -/
def evTick (ev : BitVec 5) : Bool := ev.getLsbD 0

/-- The event operation served first and the strobes that are then left (30_encoding.md R89 items 2 to 5). -/
def decodeEvent (ev : BitVec 5) : Except Reject (Instr × BitVec 5) :=
  if evOvf ev = 1 then .ok (.ovfRx, ev &&& 0b00111)
  else if evOvf ev = 2 then .ok (.ovfTx, ev &&& 0b00111)
  else if evOvf ev = 3 then .ok (.ovfBoth, ev &&& 0b00111)
  else if evRxDone ev then .ok (.rxDone, ev &&& 0b11011)
  else if evTxDone ev then .ok (.txDone, ev &&& 0b11101)
  else if evTick ev then .ok (.tick, ev &&& 0b11110)
  else .error .noEvent

/-! ### The function select (30_encoding.md R91) -/

/-- The function unit that `fn_sel` calls, on the operands at the port. -/
def decodeFn (sel : BitVec 3) (a : FnArgs) : Except Reject Instr :=
  if sel = 1 then .ok (.validate a.f a.id0 a.id1)
  else if sel = 2 then .ok (.decodeCh a.f)
  else if sel = 3 then .ok (.decodeRssi a.raw)
  else if sel = 4 then .ok (.encodeTlm a.tid a.a0 a.a1 a.rs a.id0 a.id1 a.nIn a.d)
  else if sel = 5 then .ok (.hubStuff a.sid a.val)
  else if sel = 0 then .error .noFunction
  else .error (.reservedFnSel sel)

/-! ### A whole sample (30_encoding.md R88, R89) -/

/-- The function port of a sample with nothing else asserted: the call, if there is one, comes last
(its place is unobservable, 45_system_ops.md R226; log entry 12). -/
def decodeFnPort (smp : Sample) : Except Reject (Instr × Sample) :=
  match decodeFn smp.fnSel smp.fnArgs with
  | .ok i => .ok (i, { smp with fnSel := 0 })
  | .error r => .error r

/-- The events of a sample with no reset and no host command, then its function port. -/
def decodeEventPort (smp : Sample) : Except Reject (Instr × Sample) :=
  match decodeEvent smp.ev with
  | .ok (i, ev') => .ok (i, { smp with ev := ev' })
  | .error _ => decodeFnPort smp

/-- The operation of a sample that is served next, and the sample with that operation taken out:
`rst` alone, else the host command, then the events, then the function port (30_encoding.md R89). -/
def decodeSample (smp : Sample) : Except Reject (Instr × Sample) :=
  if smp.rst then .ok (.reset, {})
  else
    match decodeHost smp.hw with
    | .ok i => .ok (i, { smp with hw := 0 })
    | .error _ => decodeEventPort smp

/-- Every operation of a sample in the order of 30_encoding.md R89, written out as the rule lists it. -/
def sampleOps (smp : Sample) : List Instr :=
  if smp.rst then [.reset]
  else
    (match decodeHost smp.hw with
     | .ok i => [i]
     | .error _ => []) ++
    (if evOvf smp.ev = 1 then [.ovfRx] else if evOvf smp.ev = 2 then [.ovfTx]
     else if evOvf smp.ev = 3 then [.ovfBoth] else []) ++
    (if evRxDone smp.ev then [.rxDone] else []) ++
    (if evTxDone smp.ev then [.txDone] else []) ++
    (if evTick smp.ev then [.tick] else []) ++
    (match decodeFn smp.fnSel smp.fnArgs with
     | .ok i => [i]
     | .error _ => [])

/-! ### Words as the opcode table numbers them -/

/-- The event vector asserts exactly one event operation. -/
def singleEvent (ev : BitVec 5) : Bool :=
  match decodeEvent ev with
  | .ok (_, ev') => ev' == 0
  | .error _ => false

/-- The sample in which a word of the opcode table stands: words of more than 8 bits on the host port; shorter words on the
event port when they are one event alone, else on the function port when they select a function, else on the event
port again (the word does not say which port it is on: DESIGN CHOICE, log entry 5). All other inputs are 0. -/
def tableSample (nbits w : Nat) : Sample :=
  if nbits = 0 then {}
  else if 8 < nbits then
    if w < 2 ^ 26 then { hw := BitVec.ofNat 26 w } else {}
  else if w < 32 && singleEvent (BitVec.ofNat 5 w) then { ev := BitVec.ofNat 5 w }
  else if 1 ≤ w && w ≤ 5 then { fnSel := BitVec.ofNat 3 w }
  else if w < 32 then { ev := BitVec.ofNat 5 w }
  else {}

/-- The instruction the decoder reads from a word of the opcode table. -/
def decodeTableWord (nbits w : Nat) : Option Instr :=
  match decodeSample (tableSample nbits w) with
  | .ok (i, _) => some i
  | .error _ => none

/-! ### The encoder -/

/-- The host word of its four fields (30_encoding.md R90). -/
def hostWord (hcmd : BitVec 2) (haddr : BitVec 6) (hsub : BitVec 2) (hwdata : BitVec 16) : BitVec 26 :=
  hcmd ++ haddr ++ hsub ++ hwdata

/-- The sample that selects an operation and nothing else; `none` for the micro-operations, which have no encoding
(30_encoding.md R97). Bits that an operation ignores are written 0. -/
def encode : Instr → Option Sample
  | .reset => some { rst := true }
  | .ovfRx => some { ev := 0b01000 }
  | .ovfTx => some { ev := 0b10000 }
  | .ovfBoth => some { ev := 0b11000 }
  | .rxDone => some { ev := 0b00100 }
  | .txDone => some { ev := 0b00010 }
  | .tick => some { ev := 0b00001 }
  | .regRd haddr => some { hw := hostWord 1 haddr 0 0 }
  | .regWr haddr hwdata => some { hw := hostWord 2 haddr 0 hwdata }
  | .htWr haddr hsub hwdata => some { hw := hostWord 3 haddr hsub hwdata }
  | .start => some { hw := hostWord 2 0 0 1 }
  | .stop => some { hw := hostWord 2 0 0 0 }
  | .validate f id0 id1 => some { fnSel := 1, fnArgs := { f := f, id0 := id0, id1 := id1 } }
  | .decodeCh f => some { fnSel := 2, fnArgs := { f := f } }
  | .decodeRssi raw => some { fnSel := 3, fnArgs := { raw := raw } }
  | .encodeTlm tid a0 a1 rs id0 id1 nIn d =>
      some { fnSel := 4, fnArgs := { tid := tid, a0 := a0, a1 := a1, rs := rs, id0 := id0, id1 := id1, nIn := nIn, d := d } }
  | .hubStuff sid val => some { fnSel := 5, fnArgs := { sid := sid, val := val } }
  | .hop | .txTimeout | .advance | .missAccount | .windowEval | .tlmOpen => none
  | .accept | .reject | .lockOnFrame | .tlmLatch | .ovfRecover | .nopEvent => none

end Sys2Proof
end

