-- ==== Sys2Proof/Machine/Fetch.lean ====
section
/-! DEFINITION. How the next operation comes to the block: the head of the stimulus script (30_encoding.md R98; log entry 1). -/

namespace Sys2Proof.Machine

/-- The script once the operation before `rest` has been taken from its sample: a sample in which nothing is left is over. -/
def putBack (rest : Sample) (tail : List Stimulus) : List Stimulus :=
  match decodeSample rest with
  | .ok _ => .sample rest :: tail
  | .error _ => tail

/-- The operation to run next, if there is one, and the state in which it runs: the port lists are those of a new operation
and the script has moved on. A sample without an operation, a DMA write and new data inputs run none; an empty script is
an environment that asserts nothing (log entries 1, 10 and 15). -/
def fetch (s : State) : Option Instr × State :=
  match s.script with
  | [] => (none, beginOp s)
  | .dma f :: tail => (none, storeFrame f { beginOp s with script := tail })
  | .inputs d :: tail => (none, { beginOp s with inputs := d, script := tail })
  | .sample smp :: tail =>
    match decodeSample smp with
    | .ok (i, rest) => (some i, { beginOp s with script := putBack rest tail })
    | .error _ => (none, { beginOp s with script := tail })

/-- Puts a sample at the head of the script. -/
def State.withSample (smp : Sample) (s : State) : State := { s with script := .sample smp :: s.script }

end Sys2Proof.Machine
end

