-- ==== Sys2Proof/Machine/Step.lean ====
section
/-! DEFINITION. One step: fetch the next operation and run it; a step without one is the environment's (log entry 1). -/

namespace Sys2Proof.Machine

/-- One step of the machine: one operation of the block, or one move of its environment. -/
def step (s : State) : Host.Outcome State Fault Refusal :=
  match fetch s with
  | (some i, s') => exec i s'
  | (none, s') => .next s'

/-- The word of an opcode-table row, placed so that the next step runs it: the head of the script becomes the sample
that holds the word (log entries 1 and 5). -/
def State.withFetchWord (s : State) (nbits w : Nat) : State := s.withSample (tableSample nbits w)

end Sys2Proof.Machine
end

