-- ==== Sys2Proof/Machine/Ports.lean ====
section
/-! DEFINITION. The bit patterns of the output ports (30_encoding.md R92, R93). -/

namespace Sys2Proof.Machine

/-- `rcmd[1:0]` (R92). -/
def RadioCmd.rcmd : RadioCmd → BitVec 2
  | .setIdle => 0
  | .tune _ _ _ _ => 1
  | .armRx _ => 2
  | .armTx => 3

/-- `rarg[31:0]` (R92). -/
def RadioCmd.rarg : RadioCmd → BitVec 32
  | .setIdle => 0
  | .tune chan fine mid coarse => coarse ++ mid ++ fine ++ chan
  | .armRx freqOffset => freqOffset.setWidth 32
  | .armTx => 0

/-- `ocode[2:0]` (R93); 0 is no event and 7 is never emitted. -/
def OutEvent.ocode : OutEvent → BitVec 3
  | .updateChannels _ _ => 1
  | .frameLost => 2
  | .connLost => 3
  | .connRestored => 4
  | .hubAck _ => 5
  | .log _ => 6

/-- The command that reaches the driver with the transfer: the frame of `ARM_TX` is `PKT[0..17]` (R92, R278 c). -/
def transmittedFrame (s : State) : List Byte := (pktFrame s).toList.take 18

end Sys2Proof.Machine
end

