-- ==== Sys2Proof/Machine/Script.lean ====
section
/-! DEFINITION. The stimulus notation of 30_encoding.md R98 and the pseudo-instructions of R99, as pieces of script. -/

namespace Sys2Proof.Machine.Script

/-- `WR r, v`. -/
def wr (r : BitVec 6) (v : BitVec 16) : List Stimulus := [.sample { hw := hostWord 2 r 0 v }]
/-- `RD r`. -/
def rd (r : BitVec 6) : List Stimulus := [.sample { hw := hostWord 1 r 0 0 }]
/-- `HTB i, j, v`. -/
def htb (i : BitVec 6) (j : BitVec 2) (v : Byte) : List Stimulus := [.sample { hw := hostWord 3 i j (v.setWidth 16) }]
/-- `TICK`. -/
def tickLine : List Stimulus := [.sample { ev := 0b00001 }]
/-- `RXDONE b0 b1 ... b19`. -/
def rxdone (f : Frame) : List Stimulus := [.dma f, .sample { ev := 0b00100 }]
/-- `TXDONE`. -/
def txdone : List Stimulus := [.sample { ev := 0b00010 }]
/-- `OVF rx`. -/
def ovfRxLine : List Stimulus := [.sample { ev := 0b01000 }]
/-- `OVF tx`. -/
def ovfTxLine : List Stimulus := [.sample { ev := 0b10000 }]
/-- `RESET`. -/
def resetLine : List Stimulus := [.sample { rst := true }]
/-- `IN`. -/
def inLine (d : DataInputs) : List Stimulus := [.inputs d]
/-- `RUN`. -/
def run : List Stimulus := wr 0 1
/-- `STOP`. -/
def stopLine : List Stimulus := wr 0 0
/-- `TICKS n`. -/
def ticks (n : Nat) : List Stimulus := (List.replicate n tickLine).flatten
/-- `HTW i, c, f, m, k`. -/
def htw (i : BitVec 6) (c f m k : Byte) : List Stimulus := htb i 0 c ++ htb i 1 f ++ htb i 2 m ++ htb i 3 k
/-- `TXID a, b`. -/
def txid (a b : Byte) : List Stimulus := wr 1 (b ++ a)
/-- `FOFF v`. -/
def foff (v : Int) : List Stimulus := wr 2 ((BitVec.ofInt 8 v).setWidth 16)
/-- `RXFRAME`, for the identity `id0`, `id1`. -/
def rxframe (id0 id1 seq tid : Byte) (c : Channels) (rssi : Byte) (lqi : BitVec 7 := 0) (crc : Bool := true) : List Stimulus :=
  rxdone (rxFrame id0 id1 seq tid c rssi lqi crc)

end Sys2Proof.Machine.Script
end

