-- ==== Sys2Proof/Safety.lean ====
section
/-! DEFINITION. What counts as a good state and a well-behaved environment, in the terms claims use: the invariants of
10_state.md R45, the ownership of `PKT` (20_memory.md R70) and the environment's duties (70_reset_and_hazards.md R278). -/

namespace Sys2Proof.Machine

/-- The invariants of 10_state.md R45 between operations, with the two facts that make them inductive (`counted`, `seen`),
and the canonical form of both memories. R45 (i), `dir` and `connState` never hold code 3, is carried by their types. -/
structure Inv (s : State) : Prop where
  /-- R45 (a). -/
  index : s.channelIndex.toNat < Config.params.nHop
  /-- R45 (b). -/
  hops : s.hopCounter.toNat ≤ 99
  /-- R45 (c). -/
  quality : s.linkQuality.toNat ≤ 100
  /-- R45 (c), R28: at most one frame per interval of the window, and `rxCount` is at most 100. -/
  counted : s.rxCount.toNat ≤ s.hopCounter.toNat + s.pktSeen.toNat
  /-- R45 (d). -/
  timer : 1 ≤ s.hopTimer.toNat ∧ s.hopTimer.toNat ≤ 500
  /-- R45 (e). -/
  locked : s.rxCount ≠ 0 → s.connState = .locked
  /-- R45 (f). -/
  request : s.tlmPending = true → s.pktSeen = true ∧ s.connState = .locked
  /-- R28, R35: a frame accepted in this interval is counted in this window. -/
  seen : s.pktSeen = true → s.rxCount ≠ 0
  /-- R45 (g). -/
  consumed : s.pktSeen = true → s.dir = .idle
  /-- R45 (h). -/
  halted : s.run = false → s.dir = .idle
  /-- The canonical form of `PKT` (log entry 19). -/
  pktWf : Memory.wf pktFill 20 s.pkt = true
  /-- The canonical form of `HT` (log entry 19). -/
  htWf : Memory.wf htFill (4 * Config.params.nHop) s.ht = true

/-- Who may access the packet buffer (20_memory.md R70). -/
inductive PktOwner where
  | block
  | dmaWrite
  | dmaRead
  deriving DecidableEq, Repr

/-- The owner of `PKT` is given by `dir` (20_memory.md R70). -/
def pktOwner : Dir → PktOwner
  | .idle => .block
  | .receivingInto => .dmaWrite
  | .transmittingFrom => .dmaRead

/-- The next move of the environment keeps the DMA agent's duties of 70_reset_and_hazards.md R278: it writes `PKT` only while it
owns it for writing, and completes only a transfer that is armed. Nothing in `step` assumes this. -/
def envOk (s : State) : Bool :=
  match s.script with
  | .dma _ :: _ => s.dir == .receivingInto
  | .sample smp :: _ =>
    (!evRxDone smp.ev || s.dir == .receivingInto) && (!evTxDone smp.ev || s.dir == .transmittingFrom)
  | _ => true

/-- A good state whose environment behaves. -/
def Safe (s : State) : Prop := Inv s ∧ envOk s = true

/-- The state after `n` invocations of one operation of this hardware, stopping where `exec` does not answer a next state. -/
def execTimes (i : Instr) : Nat → State → Result
  | 0, s => .next s
  | n + 1, s =>
    match exec i s with
    | .next t => execTimes i n t
    | .fault r => .fault r
    | .refused r => .refused r

/-- The operations of a list, each beginning with empty port lists and seeing the state the previous one left
(30_encoding.md R89). -/
def serveAll : List Instr → State → Result
  | [], s => .next s
  | i :: is, s =>
    match exec i (beginOp s) with
    | .next t => serveAll is t
    | .fault r => .fault r
    | .refused r => .refused r

/-- `HUB_STUFF`'s reverse on the value bytes: an escape pair stands for the byte it escapes (41_framer_validator.md R150). -/
def unstuffBytes : List Byte → List Byte
  | [] => []
  | [b] => [b]
  | b :: c :: r =>
    if b = Config.hubEsc ∧ c = Config.hubEscDelim then Config.hubDelim :: unstuffBytes r
    else if b = Config.hubEsc ∧ c = Config.hubEscEsc then Config.hubEsc :: unstuffBytes r
    else b :: unstuffBytes (c :: r)

/-- The reverse routine of 41_framer_validator.md R150: drop the first and the last byte, read the sensor id, read two data bytes. -/
def hubUnstuff (b : List Byte) : Option (Byte × BitVec 16) :=
  match b.tail.dropLast with
  | [] => none
  | sid :: rest =>
    match unstuffBytes rest with
    | [lo, hi] => some (sid, hi ++ lo)
    | _ => none

end Sys2Proof.Machine
end

