-- ==== Sys2Proof/Certificates/Slice0/Obligations.lean ====
section
/-! DEFINITION. The statements for the provers. Each says, in the spec's own quantities, what an operation or the machine does;
unless it says otherwise it holds in every state, reachable or not. `exec` appends to the port lists `radio` and `out` (log entry 2). -/

open Sys2Proof Sys2Proof.Machine

/-! ### Encoding -/

/-- 30_encoding.md R88 to R91: an operation has an encoding iff it is no micro-operation, and the decoder reads every encoded
well-formed operation back with all its operands, as the only operation of its sample. -/
def Obligations.DecodeEncodeAgree : Prop :=
  ∀ i : Instr,
    (encode i).isSome = i.encodable ∧
    ∀ smp : Sample, i.wf = true → encode i = some smp →
      ∃ rest r, decodeSample smp = .ok (i, rest) ∧ decodeSample rest = .error r

/-- 95_test_vectors.md sections 11 and 12, 30_encoding.md R88, R90, R91: words the spec writes out decode to the operations it
gives, each on its own port. Three readings are the model's: a write of `CTRL` is `START` or `STOP` by bit 0 alone, `run` being
tested in their meanings (log entry 6); a reserved select is refused by name, and so selects no operation (log entry 11); and
`decodeTableWord`, which is given no port, takes words of more than 8 bits for host words and shorter ones for event vectors first
(log entry 5). -/
def Obligations.SpecWordsDecode : Prop :=
  -- the host port
  decodeHost 0x2043CA5 = .ok (.regWr 1 0x3CA5) ∧
  decodeHost 0x20801F4 = .ok (.regWr 2 0x1F4) ∧
  decodeHost 0x12C0000 = .ok (.regRd 11) ∧
  decodeHost 0x3BB00CE = .ok (.htWr 46 3 0xCE) ∧
  decodeHost 0x2000001 = .ok .start ∧
  decodeHost 0x200FFFE = .ok .stop ∧
  -- the reset pin and the event vector
  decodeSample { rst := true } = .ok (.reset, {}) ∧
  decodeSample { ev := 0b01000 } = .ok (.ovfRx, {}) ∧
  decodeSample { ev := 0b10000 } = .ok (.ovfTx, {}) ∧
  decodeSample { ev := 0b11000 } = .ok (.ovfBoth, {}) ∧
  decodeSample { ev := 0b00100 } = .ok (.rxDone, {}) ∧
  decodeSample { ev := 0b00010 } = .ok (.txDone, {}) ∧
  decodeSample { ev := 0b00001 } = .ok (.tick, {}) ∧
  -- the function port
  (∀ a : FnArgs,
    decodeFn 1 a = .ok (.validate a.f a.id0 a.id1) ∧ decodeFn 2 a = .ok (.decodeCh a.f) ∧
    decodeFn 3 a = .ok (.decodeRssi a.raw) ∧
    decodeFn 4 a = .ok (.encodeTlm a.tid a.a0 a.a1 a.rs a.id0 a.id1 a.nIn a.d) ∧
    decodeFn 5 a = .ok (.hubStuff a.sid a.val) ∧ decodeFn 0 a = .error .noFunction ∧
    decodeFn 6 a = .error (.reservedFnSel 6) ∧ decodeFn 7 a = .error (.reservedFnSel 7)) ∧
  -- the same words as words of the opcode table
  decodeTableWord 32 0x2043CA5 = some (.regWr 1 0x3CA5) ∧
  decodeTableWord 32 0x20801F4 = some (.regWr 2 0x1F4) ∧
  decodeTableWord 32 0x12C0000 = some (.regRd 11) ∧
  decodeTableWord 32 0x3BB00CE = some (.htWr 46 3 0xCE) ∧
  decodeTableWord 32 0x2000001 = some .start ∧
  decodeTableWord 32 0x200FFFE = some .stop ∧
  decodeTableWord 8 0b01000 = some .ovfRx ∧
  decodeTableWord 8 0b10000 = some .ovfTx ∧
  decodeTableWord 8 0b11000 = some .ovfBoth ∧
  decodeTableWord 8 0b00100 = some .rxDone ∧
  decodeTableWord 8 0b00010 = some .txDone ∧
  decodeTableWord 8 0b00001 = some .tick

/-- 30_encoding.md R92: the bit pattern of every `RADIO` command. -/
def Obligations.RadioCommandWords : Prop :=
  ∀ c f m k o : Byte,
    RadioCmd.rcmd .setIdle = 0 ∧ RadioCmd.rarg .setIdle = 0 ∧
    RadioCmd.rcmd (.tune c f m k) = 1 ∧
    (RadioCmd.rarg (.tune c f m k)).toNat = k.toNat * 2 ^ 24 + m.toNat * 2 ^ 16 + f.toNat * 2 ^ 8 + c.toNat ∧
    RadioCmd.rcmd (.armRx o) = 2 ∧ (RadioCmd.rarg (.armRx o)).toNat = o.toNat ∧
    RadioCmd.rcmd .armTx = 3 ∧ RadioCmd.rarg .armTx = 0

/-- 30_encoding.md R93: the code of every `OUT` event, and what an operation may emit: no event of code 0 or 7, no `HubAck` in this
hardware and at most 10 in it under any parameter setting, and `Log` with cause code 1, 2, 4 or 5 only. -/
def Obligations.OutEventWords : Prop :=
  (∀ (ch : Channels) (q : Byte) (n : BitVec 4) (c : BitVec 3),
    OutEvent.ocode (.updateChannels ch q) = 1 ∧ OutEvent.ocode .frameLost = 2 ∧ OutEvent.ocode .connLost = 3 ∧
    OutEvent.ocode .connRestored = 4 ∧ OutEvent.ocode (.hubAck n) = 5 ∧ OutEvent.ocode (.log c) = 6) ∧
  (∀ (i : Instr) (s t : State), exec i s = .next t →
    ∃ events, t.out = s.out ++ events ∧ ∀ e ∈ events,
      e.ocode ≠ 0 ∧ e.ocode ≠ 7 ∧ (∀ n, e ≠ .hubAck n) ∧ ∀ c, e = .log c → c = 1 ∨ c = 2 ∨ c = 4 ∨ c = 5) ∧
  (∀ (p : Params) (s : State),
    (tlmOpen p s).out = s.out ∨ ∃ n : BitVec 4, n.toNat ≤ 10 ∧ (tlmOpen p s).out = s.out ++ [.hubAck n])

/-! ### Steps -/

/-- A step runs the operation the decoder reads from the sample at the head of the script, with empty port lists and the rest of
the sample put back; a sample without an operation, a DMA write, new data inputs and an empty script run none (30_encoding.md R89,
R98; the script is the model's, log entries 1, 10, 15). -/
def Obligations.StepRunsTheDecodedOperation : Prop :=
  ∀ s : State,
    (∀ smp tail i rest, s.script = .sample smp :: tail → decodeSample smp = .ok (i, rest) →
      step s = exec i { s with radio := [], out := [], fnResult := none,
                               script := if (sampleOps rest).isEmpty then tail else .sample rest :: tail }) ∧
    (∀ smp tail r, s.script = .sample smp :: tail → decodeSample smp = .error r →
      step s = .next { s with radio := [], out := [], fnResult := none, script := tail }) ∧
    (∀ f tail, s.script = .dma f :: tail →
      ∃ t, step s = .next t ∧ pktFrame t = f ∧ (∀ a, 20 ≤ a → pktRead t a = pktRead s a) ∧
        { t with pkt := s.pkt } = { s with radio := [], out := [], fnResult := none, script := tail }) ∧
    (∀ d tail, s.script = .inputs d :: tail →
      step s = .next { s with radio := [], out := [], fnResult := none, inputs := d, script := tail }) ∧
    (s.script = [] → step s = .next { s with radio := [], out := [], fnResult := none })

/-- 70_reset_and_hazards.md R287: every operation is total: no operation and no step faults or refuses. -/
def Obligations.EveryOperationIsTotal : Prop :=
  ∀ s : State, (∀ i : Instr, ∃ t, exec i s = .next t) ∧ ∃ t, step s = .next t

/-- 30_encoding.md R89: serving a sample step by step is performing its operations one after another in the rule's order, each on
the state the previous one left. That a step is one operation, and the place of the function call, are the model's choice (log
entries 1 and 12). -/
def Obligations.SampleServedInRuleOrder : Prop :=
  ∀ (s : State) (smp : Sample) (tail : List Stimulus),
    s.script = .sample smp :: tail → sampleOps smp ≠ [] →
    Host.Core.run core (sampleOps smp).length s = serveAll (sampleOps smp) { s with script := tail }

/-- 10_state.md R45: every step from a state that meets the invariants ends in one that meets them. -/
def Obligations.StepKeepsInvariants : Prop :=
  ∀ s t : State, Inv s → step s = .next t → Inv t

/-- 10_state.md R45: the invariants hold after reset. -/
def Obligations.ResetMeetsInvariants : Prop := Inv State.reset

/-- 10_state.md R45 (c), 20_memory.md R63: what the invariants bound: `rxCount` is at most 100 and the hop table is read inside
its 47 entries. -/
def Obligations.InvariantBoundsCountAndIndex : Prop :=
  ∀ s : State, Inv s → s.rxCount.toNat ≤ 100 ∧ ∀ j < 4, htKey s.channelIndex.toNat j < 188

/-! ### Hop scheduler -/

/-- 40_hop_scheduler.md R121. -/
def Obligations.TickCountsDownOrHops : Prop :=
  ∀ s : State,
    (s.run = true → 1 < s.hopTimer.toNat →
      exec .tick s = .next { s with hopTimer := BitVec.ofNat 9 (s.hopTimer.toNat - 1) }) ∧
    (s.run = true → s.hopTimer = 1 →
      ∃ t, exec .hop { s with hopTimer := 0 } = .next t ∧ exec .tick s = .next t) ∧
    (s.run = false → exec .tick s = .next s)

/-- 40_hop_scheduler.md R121, R127: a load of `n + 1` ticks produces the hop event on the `n + 1`-th tick and none before. -/
def Obligations.LoadOfTicksGivesOneHop : Prop :=
  ∀ (s : State) (n : Nat), s.run = true → s.hopTimer.toNat = n + 1 →
    execTimes .tick n s = .next { s with hopTimer := 1 } ∧
    ∃ t, exec .hop { s with hopTimer := 0 } = .next t ∧ execTimes .tick (n + 1) s = .next t

/-- 40_hop_scheduler.md R124: the index law of this hardware, and of every legal parameter setting. -/
def Obligations.AdvanceIndexLaw : Prop :=
  (∀ s : State, s.run = true →
    exec .advance s = .next { s with channelIndex := BitVec.ofNat 6 ((s.channelIndex.toNat + 1) % 47) }) ∧
  (∀ (p : Params) (s : State), p.legal = true →
    ∃ x : BitVec 6, advance p s = { s with channelIndex := x } ∧
      x.toNat = (s.channelIndex.toNat + (1 + if s.tlmPending then p.tlmExtraSteps else 0)) % p.nHop)

/-- 40_hop_scheduler.md R123, with R122, R124, R125, R181, R183, R203, R205 as its lines invoke them: the whole effect of a hop
event of this hardware, and all it leaves alone. The marker 0x11 is general knowledge in the spec (G6; log entry 14). -/
def Obligations.HopEventEffect : Prop :=
  ∀ s : State, s.run = true →
    ∃ t, exec .hop s = .next t ∧
      let index := (s.channelIndex.toNat + 1) % 47
      let closes := s.hopCounter + 1 = 100
      -- the grid and the counts
      t.channelIndex.toNat = index ∧
      t.missedCount.toNat = (if s.pktSeen then s.missedCount.toNat else min (s.missedCount.toNat + 1) 65535) ∧
      t.pktSeen = false ∧
      t.hopCounter = (if closes then 0 else s.hopCounter + 1) ∧
      t.rxCount = (if closes then 0 else s.rxCount) ∧
      t.linkQuality.toNat = (if closes then s.rxCount.toNat else s.linkQuality.toNat) ∧
      t.connState = (if closes then (if s.rxCount = 0 then .lost else .locked) else s.connState) ∧
      t.hopTimer = (if t.connState = .locked then 9 else 500) ∧
      -- the radio
      t.radio = s.radio ++
        [.setIdle, .tune (htRead s (4 * index)) (htRead s (4 * index + 1)) (htRead s (4 * index + 2)) (htRead s (4 * index + 3)),
         if s.tlmPending then .armTx else .armRx s.freqOffset] ∧
      t.dir = (if s.tlmPending then .transmittingFrom else .receivingInto) ∧
      t.tlmPending = false ∧
      -- the errors and events
      t.err = s.err ||| (if s.dir = .transmittingFrom then 0b010000 else 0) ||| (if s.pktSeen then 0 else 0b000100) |||
        (if closes ∧ s.rxCount = 0 ∧ s.connState ≠ .lost then 0b100000 else 0) ∧
      t.out = s.out ++ (if s.dir = .transmittingFrom then [.log 5] else []) ++ (if s.pktSeen then [] else [.frameLost]) ++
        (if closes ∧ s.rxCount = 0 ∧ s.connState ≠ .lost then [.connLost] else []) ++
        (if closes ∧ s.rxCount ≠ 0 ∧ s.connState ≠ .locked then [.connRestored] else []) ∧
      -- the memories
      (s.tlmPending = true → pktFrame t =
        #v[0x11, s.txid0, s.txid1, s.inputs.adc0, s.inputs.adc1, s.rssi, 0, 0, 0, 0, 0, 0, 0, 0, 0, 0, 0, 0, 0, 0]) ∧
      (∀ a, s.tlmPending = false ∨ 20 ≤ a → pktRead t a = pktRead s a) ∧
      (∀ a, htRead t a = htRead s a) ∧
      -- everything else
      { s with channelIndex := t.channelIndex, missedCount := t.missedCount, pktSeen := t.pktSeen, hopCounter := t.hopCounter,
               rxCount := t.rxCount, linkQuality := t.linkQuality, connState := t.connState, hopTimer := t.hopTimer,
               radio := t.radio, dir := t.dir, tlmPending := t.tlmPending, err := t.err, out := t.out, pkt := t.pkt } = t

/-- 10_state.md R31, 40_hop_scheduler.md R122, R126: apart from ticks, `START` and `RESET`, only the frame that locks the block
touches the timer, and it sets 9. -/
def Obligations.OnlyTheLockingFrameMovesTheGrid : Prop :=
  ∀ (i : Instr) (s t : State), i.encodable = true → exec i s = .next t →
    i ≠ .tick → i ≠ .start → i ≠ .reset → (∀ d, i ≠ .regWr 0 d) →
    t.hopTimer = s.hopTimer ∨
    (i = .rxDone ∧ s.connState ≠ .locked ∧ t.connState = .locked ∧ t.hopTimer = 9)

/-! ### Connection-loss detector -/

/-- 43_loss_detector.md R181. -/
def Obligations.MissAccountEffect : Prop :=
  ∀ s : State, s.run = true →
    (s.pktSeen = true → exec .missAccount s = .next { s with pktSeen := false }) ∧
    (s.pktSeen = false →
      exec .missAccount s = .next
        { s with missedCount := BitVec.ofNat 16 (min (s.missedCount.toNat + 1) 65535),
                 err := s.err ||| 0b000100, out := s.out ++ [.frameLost] })

/-- 43_loss_detector.md R182, also under the re-phase parameter. -/
def Obligations.LockOnFrameEffect : Prop :=
  (∀ s : State, s.run = true →
    (s.connState = .locked → exec .lockOnFrame s = .next s) ∧
    (s.connState ≠ .locked →
      exec .lockOnFrame s = .next { s with connState := .locked, hopTimer := 9, out := s.out ++ [.connRestored] })) ∧
  (∀ (p : Params) (r : Nat) (s : State), p.rephaseTicks = some r →
    lockOnFrame p s =
      { s with connState := .locked, hopTimer := BitVec.ofNat 9 r,
               out := s.out ++ (if s.connState = .locked then [] else [.connRestored]) })

/-- 43_loss_detector.md R183. -/
def Obligations.WindowEvalEffect : Prop :=
  ∀ s : State, s.run = true →
    (s.rxCount = 0 → s.connState ≠ .lost →
      exec .windowEval s = .next
        { s with connState := .lost, err := s.err ||| 0b100000, out := s.out ++ [.connLost], linkQuality := 0 }) ∧
    (s.rxCount = 0 → s.connState = .lost → exec .windowEval s = .next { s with linkQuality := 0 }) ∧
    (s.rxCount ≠ 0 → s.connState = .locked →
      exec .windowEval s = .next { s with linkQuality := BitVec.ofNat 8 s.rxCount.toNat, rxCount := 0 }) ∧
    (s.rxCount ≠ 0 → s.connState ≠ .locked →
      exec .windowEval s = .next
        { s with connState := .locked, out := s.out ++ [.connRestored],
                 linkQuality := BitVec.ofNat 8 s.rxCount.toNat, rxCount := 0 })

/-- 43_loss_detector.md R184: every transition of `connState` by an operation with an encoding, with the timer it leaves, from a
state that meets the invariants. -/
def Obligations.ConnectionTransitions : Prop :=
  ∀ (i : Instr) (s t : State), Inv s → i.encodable = true → exec i s = .next t → t.connState ≠ s.connState →
    (t.connState = .syncing ∧ (i = .reset ∨ i = .start ∨ ∃ d, i = .regWr 0 d) ∧ t.hopTimer = 500) ∨
    (t.connState = .locked ∧ i = .rxDone ∧ t.hopTimer = 9) ∨
    (t.connState = .lost ∧ i = .tick ∧ s.hopCounter = 99 ∧ s.rxCount = 0 ∧ t.hopTimer = 500)

/-- 43_loss_detector.md R185: `ConnLost` is emitted exactly on the transition into `Lost`, and `ConnRestored` exactly on the
transition into `Locked`. -/
def Obligations.LossAndRestoreAnnouncedOnTransition : Prop :=
  ∀ (i : Instr) (s t : State), Inv s → i.encodable = true → exec i s = .next t →
    t.out.count .connLost =
      s.out.count .connLost + (if t.connState = .lost ∧ s.connState ≠ .lost then 1 else 0) ∧
    t.out.count .connRestored =
      s.out.count .connRestored + (if t.connState = .locked ∧ s.connState ≠ .locked then 1 else 0)

/-- 43_loss_detector.md R186, 40_hop_scheduler.md R125: with no frame accepted, `Lost` is declared at the hop event that closes
the first empty window, once, and never again however long the silence lasts. -/
def Obligations.EmptyWindowDeclaresLostOnce : Prop :=
  ∀ (s : State) (m : Nat), s.run = true → s.rxCount = 0 → s.pktSeen = false → s.tlmPending = false →
    s.hopCounter.toNat ≤ 99 → s.channelIndex.toNat < 47 → s.connState ≠ .lost →
    ∃ t, execTimes .hop m s = .next t ∧
      t.channelIndex.toNat = (s.channelIndex.toNat + m) % 47 ∧
      t.hopCounter.toNat = (s.hopCounter.toNat + m) % 100 ∧
      t.missedCount.toNat = min (s.missedCount.toNat + m) 65535 ∧
      (m < 100 - s.hopCounter.toNat →
        t.connState = s.connState ∧ t.out.count .connLost = s.out.count .connLost) ∧
      (100 - s.hopCounter.toNat ≤ m →
        t.connState = .lost ∧ t.out.count .connLost = s.out.count .connLost + 1)

/-! ### Framer -/

/-- 41_framer_validator.md R141: an expected reception is accepted or rejected by `VALIDATE`; any other `rx_done` is dropped. That
the CRC-ok flag is bit 7 is general knowledge in the spec (G5; log entry 14). -/
def Obligations.RxDoneAcceptsOrRejects : Prop :=
  ∀ s : State,
    (s.run = true → s.dir = .receivingInto →
      128 ≤ (pktRead s 19).toNat → pktRead s 1 = s.txid0 → pktRead s 2 = s.txid1 →
      ∃ t, exec .rxDone s = .next t ∧ exec .accept s = .next t ∧ t.pktSeen = true ∧ t.dir = .idle) ∧
    (s.run = true → s.dir = .receivingInto →
      ¬ (128 ≤ (pktRead s 19).toNat ∧ pktRead s 1 = s.txid0 ∧ pktRead s 2 = s.txid1) →
      ∃ t, exec .rxDone s = .next t ∧ exec .reject s = .next t ∧ t.dir = .receivingInto) ∧
    (s.run = false ∨ s.dir ≠ .receivingInto → exec .rxDone s = .next s)

/-- 41_framer_validator.md R144, with R146, R171, R182, R201 as its lines invoke them: the whole effect of accepting a frame, and
all it leaves alone. The positions of sequence, id and channels are general knowledge in the spec (G1, G2, G4; log entry 14). -/
def Obligations.AcceptEffect : Prop :=
  ∀ s : State, s.run = true →
    ∃ t, exec .accept s = .next t ∧
      let b := fun i => (pktRead s i).toNat
      t.pktSeen = true ∧
      t.rxCount = s.rxCount + 1 ∧
      t.connState = .locked ∧
      t.hopTimer = (if s.connState = .locked then s.hopTimer else 9) ∧
      (t.rssi.toNat : Int) = (b 18 * 18 / 32 + if 128 ≤ b 18 then -82 else 65 : Int) % 256 ∧
      t.chan[0].toNat = b 6 + 256 * (b 10 % 16) ∧ t.chan[1].toNat = b 7 + 256 * (b 10 / 16) ∧
      t.chan[2].toNat = b 8 + 256 * (b 11 % 16) ∧ t.chan[3].toNat = b 9 + 256 * (b 11 / 16) ∧
      t.chan[4].toNat = b 12 + 256 * (b 16 % 16) ∧ t.chan[5].toNat = b 13 + 256 * (b 16 / 16) ∧
      t.chan[6].toNat = b 14 + 256 * (b 17 % 16) ∧ t.chan[7].toNat = b 15 + 256 * (b 17 / 16) ∧
      t.tlmPending = (if b 3 % 4 = 2 then true else s.tlmPending) ∧
      t.tlmId = (if b 3 % 4 = 2 then pktRead s 4 else s.tlmId) ∧
      t.out = s.out ++ (if s.connState = .locked then [] else [.connRestored]) ++
        [.updateChannels (t.chan.map (BitVec.setWidth 16)) s.linkQuality] ∧
      t.dir = .idle ∧
      (∀ a, pktRead t a = if a = 19 then 0 else pktRead s a) ∧
      (∀ a, htRead t a = htRead s a) ∧
      { s with pktSeen := t.pktSeen, rxCount := t.rxCount, connState := t.connState, hopTimer := t.hopTimer, rssi := t.rssi,
               chan := t.chan, tlmPending := t.tlmPending, tlmId := t.tlmId, out := t.out, dir := t.dir, pkt := t.pkt } = t

/-- 41_framer_validator.md R145. -/
def Obligations.RejectEffect : Prop :=
  ∀ s : State, s.run = true →
    exec .reject s = .next
      { s with err := s.err ||| 0b001000, out := s.out ++ [.log 4], radio := s.radio ++ [.armRx s.freqOffset] }

/-- 41_framer_validator.md R142: the select, the result in this hardware, and the result for every setting of `ID_CHECK_EN`. That
the CRC-ok flag is bit 7 is general knowledge in the spec (G5; log entry 14). -/
def Obligations.ValidateEffect : Prop :=
  (∀ a : FnArgs, decodeFn 1 a = .ok (.validate a.f a.id0 a.id1)) ∧
  (∀ (f : Frame) (id0 id1 : Byte) (s : State),
    exec (.validate f id0 id1) s = .next
      { s with fnResult := some (.valid (decide (128 ≤ f[19].toNat ∧ f[1] = id0 ∧ f[2] = id1))) }) ∧
  (∀ (p : Params) (f : Frame) (id0 id1 : Byte),
    validateFrame p f id0 id1 = true ↔ 128 ≤ f[19].toNat ∧ (p.idCheckEn = false ∨ (f[1] = id0 ∧ f[2] = id1)))

/-- 41_framer_validator.md R146: the select, and the written-out formula, under every `CH_MASK`. The channel layout is general
knowledge in the spec (G4; log entry 14). -/
def Obligations.DecodeChEffect : Prop :=
  (∀ a : FnArgs, decodeFn 2 a = .ok (.decodeCh a.f)) ∧
  ∀ f : Frame,
    let field : Vector Nat 8 :=
      #v[f[6].toNat + 256 * (f[10].toNat % 16), f[7].toNat + 256 * (f[10].toNat / 16),
         f[8].toNat + 256 * (f[11].toNat % 16), f[9].toNat + 256 * (f[11].toNat / 16),
         f[12].toNat + 256 * (f[16].toNat % 16), f[13].toNat + 256 * (f[16].toNat / 16),
         f[14].toNat + 256 * (f[17].toNat % 16), f[15].toNat + 256 * (f[17].toNat / 16)]
    (∀ s : State, exec (.decodeCh f) s = .next { s with fnResult := some (.channels (field.map (BitVec.ofNat 16))) }) ∧
    (∀ (p : Params) (k : Fin 8), (decodeChannels p f)[k] = BitVec.ofNat 16 field[k] &&& p.chMask)

/-- 41_framer_validator.md R149, a law the spec derives from R146 and R84: the channel round trip, for 11-bit values under both
masks and for 12-bit values under the mask 0x0FFF, on the layout of G4 (log entry 14). -/
def Obligations.ChannelRoundTrip : Prop :=
  ∀ (p : Params) (id0 id1 seq tid : Byte) (ch : Channels) (rssi : Byte) (lqi : BitVec 7) (crc : Bool),
    ((p.chMask = 0x0FFF ∧ ∀ k : Fin 8, ch[k].toNat ≤ 4095) ∨ (p.chMask = 0x07FF ∧ ∀ k : Fin 8, ch[k].toNat ≤ 2047)) →
    decodeChannels p (rxFrame id0 id1 seq tid ch rssi lqi crc) = ch

/-- 41_framer_validator.md R147, 30_encoding.md R86: the select, this hardware's telemetry frame, and every byte under the
parameters. The marker 0x11 is general knowledge in the spec (G6; log entry 14). -/
def Obligations.EncodeTlmEffect : Prop :=
  (∀ a : FnArgs, decodeFn 4 a = .ok (.encodeTlm a.tid a.a0 a.a1 a.rs a.id0 a.id1 a.nIn a.d)) ∧
  ∀ (tid a0 a1 rs id0 id1 : Byte) (nIn : BitVec 4) (d : HubData),
    (∀ s : State, exec (.encodeTlm tid a0 a1 rs id0 id1 nIn d) s = .next
      { s with fnResult := some (.telemetry #v[0x11, id0, id1, a0, a1, rs, 0, 0, 0, 0, 0, 0, 0, 0, 0, 0, 0, 0, 0, 0] 0) }) ∧
    (∀ p : Params, p.legal = true →
      let (g, n) := encodeTelemetry p tid a0 a1 rs id0 id1 nIn d
      n.toNat = (if p.hubTlmEn then min nIn.toNat 10 else 0) ∧
      g[0] = 0x11 ∧ g[1] = id0 ∧ g[2] = id1 ∧ g[3] = a0 ∧ g[4] = a1 ∧ g[5] = rs ∧
      g[6].toNat = (if p.extTlmEn then n.toNat else 0) ∧ g[7] = (if p.extTlmEn then tid else 0) ∧
      (∀ i : Fin 10, g[8 + i.val] = if i.val < n.toNat then d[i] else 0) ∧ g[18] = 0 ∧ g[19] = 0)

/-- 41_framer_validator.md R148: the select, the sub-frame and its count: 5, and one more for each reserved value byte. -/
def Obligations.HubStuffEffect : Prop :=
  (∀ a : FnArgs, decodeFn 5 a = .ok (.hubStuff a.sid a.val)) ∧
  ∀ (sid : Byte) (val : BitVec 16) (s : State),
    let esc := fun (b : Byte) => if b = 0x5E then [0x5D, 0x3E] else if b = 0x5D then [0x5D, 0x3D] else [b]
    let lo : Byte := BitVec.ofNat 8 (val.toNat % 256)
    let hi : Byte := BitVec.ofNat 8 (val.toNat / 256)
    let bytes : List Byte := [0x5E, sid] ++ esc lo ++ esc hi ++ [0x5E]
    exec (.hubStuff sid val) s = .next { s with fnResult := some (.stuffed bytes (BitVec.ofNat 3 bytes.length)) } ∧
    bytes.length = 5 + (if lo = 0x5E ∨ lo = 0x5D then 1 else 0) + (if hi = 0x5E ∨ hi = 0x5D then 1 else 0)

/-- 41_framer_validator.md R150, a law the spec derives from R148: the hub round trip, and no unescaped delimiter between header
and footer. -/
def Obligations.HubRoundTrip : Prop :=
  ∀ (sid : Byte) (val : BitVec 16),
    hubUnstuff (hubStuffBytes sid val) = some (sid, val) ∧
    (sid ≠ 0x5E → ∀ b ∈ (hubStuffBytes sid val).tail.dropLast, b ≠ 0x5E)

/-- 42_rssi_decoder.md R171, R172, R173: the select, and the two branches on integers, truncated to 8 bits. -/
def Obligations.DecodeRssiEffect : Prop :=
  (∀ a : FnArgs, decodeFn 3 a = .ok (.decodeRssi a.raw)) ∧
  ∀ (raw : Byte) (s : State),
    ∃ v : Byte, exec (.decodeRssi raw) s = .next { s with fnResult := some (.rssi v) } ∧
      (v.toNat : Int) = ((raw.toNat * 18 / 32 : Int) + if 128 ≤ raw.toNat then -82 else 65) % 256

/-- 42_rssi_decoder.md R175, a law the spec derives from R171 and R173: linear up to the floor of the shift and non-decreasing in
each of the two ranges, the upper one on the signed reading; on the unsigned reading the upper range is non-decreasing up to 145
and from 146 on, and falls between them. -/
def Obligations.RssiMonotoneInEachRange : Prop :=
  (∀ raw : Byte, raw.toNat ≤ 127 → (decodeRssiByte raw).toNat = raw.toNat * 18 / 32 + 65) ∧
  (∀ raw : Byte, 128 ≤ raw.toNat → (decodeRssiByte raw).toInt = (raw.toNat * 18 / 32 : Int) - 82) ∧
  (∀ raw1 raw2 : Byte, raw1.toNat ≤ raw2.toNat →
    (raw2.toNat ≤ 127 → (decodeRssiByte raw1).toNat ≤ (decodeRssiByte raw2).toNat) ∧
    (128 ≤ raw1.toNat → (decodeRssiByte raw1).toInt ≤ (decodeRssiByte raw2).toInt) ∧
    (128 ≤ raw1.toNat → raw2.toNat ≤ 145 → (decodeRssiByte raw1).toNat ≤ (decodeRssiByte raw2).toNat) ∧
    (146 ≤ raw1.toNat → (decodeRssiByte raw1).toNat ≤ (decodeRssiByte raw2).toNat)) ∧
  decodeRssiByte 0 = decodeRssiByte 1 ∧ decodeRssiByte 145 = 255 ∧ decodeRssiByte 146 = 0

/-- 41_framer_validator.md R143, 10_state.md R28: a frame is counted only by an `rx_done` in an interval in which none was
accepted yet, and then the interval is marked. -/
def Obligations.OneFramePerInterval : Prop :=
  ∀ (i : Instr) (s t : State), Inv s → i.encodable = true → exec i s = .next t → s.rxCount.toNat < t.rxCount.toNat →
    i = .rxDone ∧ s.pktSeen = false ∧ t.pktSeen = true ∧ t.rxCount.toNat = s.rxCount.toNat + 1

/-- 70_reset_and_hazards.md R282: once an expected `rx_done` has been served, `PKT` holds no valid frame, so that another one
without new bytes accepts nothing; a telemetry frame in `PKT` is never valid. -/
def Obligations.ConsumedBufferIsNeverValid : Prop :=
  (∀ s t : State, s.run = true → s.dir = .receivingInto → exec .rxDone s = .next t →
    pktValid Config.params t = false ∧
    ∃ u, exec .rxDone t = .next u ∧ u.rxCount = t.rxCount ∧ u.chan = t.chan ∧ u.connState = t.connState) ∧
  (∀ (p : Params) (s : State), pktValid p (tlmOpen p s) = false)

/-! ### Telemetry slot arbiter -/

/-- 44_telemetry_arbiter.md R201. The two positions are general knowledge in the spec (G1, G2; log entry 14). -/
def Obligations.TlmLatchEffect : Prop :=
  ∀ s : State, s.run = true →
    ((pktRead s 3).toNat % 4 = 2 → exec .tlmLatch s = .next { s with tlmPending := true, tlmId := pktRead s 4 }) ∧
    ((pktRead s 3).toNat % 4 ≠ 2 → exec .tlmLatch s = .next s)

/-- 44_telemetry_arbiter.md R203, in this hardware. The marker 0x11 is general knowledge in the spec (G6; log entry 14). -/
def Obligations.TlmOpenEffect : Prop :=
  ∀ s : State, s.run = true →
    ∃ t, exec .tlmOpen s = .next t ∧
      pktFrame t = #v[0x11, s.txid0, s.txid1, s.inputs.adc0, s.inputs.adc1, s.rssi, 0, 0, 0, 0, 0, 0, 0, 0, 0, 0, 0, 0, 0, 0] ∧
      (∀ a, 20 ≤ a → pktRead t a = pktRead s a) ∧
      { t with pkt := s.pkt } =
        { s with radio := s.radio ++ [.armTx], dir := .transmittingFrom, tlmPending := false }

/-- 44_telemetry_arbiter.md R203 under hub telemetry: the payload is acknowledged with the length taken. -/
def Obligations.HubAckEffect : Prop :=
  ∀ (p : Params) (s : State), p.legal = true → p.hubTlmEn = true →
    (tlmOpen p s).out = s.out ++ [.hubAck (BitVec.ofNat 4 (min s.inputs.hubLen.toNat 10))] ∧
    pktRead (tlmOpen p s) 6 = BitVec.ofNat 8 (min s.inputs.hubLen.toNat 10) ∧
    pktRead (tlmOpen p s) 7 = s.tlmId ∧
    ∀ i : Fin 10, pktRead (tlmOpen p s) (8 + i.val) = if i.val < s.inputs.hubLen.toNat then s.inputs.hubData[i] else 0

/-- 44_telemetry_arbiter.md R204. -/
def Obligations.TxDoneEffect : Prop :=
  ∀ s : State,
    (s.run = true → s.dir = .transmittingFrom →
      exec .txDone s = .next { s with radio := s.radio ++ [.armRx s.freqOffset], dir := .receivingInto }) ∧
    (s.run = false ∨ s.dir ≠ .transmittingFrom → exec .txDone s = .next s)

/-- 44_telemetry_arbiter.md R205. -/
def Obligations.TxTimeoutEffect : Prop :=
  ∀ s : State, s.run = true →
    exec .txTimeout s = .next { s with err := s.err ||| 0b010000, out := s.out ++ [.log 5] }

/-- 44_telemetry_arbiter.md R206: a transmission is armed exactly at the hop event that finds a request, which consumes it; a
request is made only by a frame and stays until that hop event, unless `START` or `RESET` intervenes. -/
def Obligations.OneReplyPerRequest : Prop :=
  ∀ (i : Instr) (s t : State), i.encodable = true → exec i s = .next t →
    let serves := i = .tick ∧ s.run = true ∧ s.hopTimer = 1 ∧ s.tlmPending = true
    (serves → t.radio.count .armTx = s.radio.count .armTx + 1 ∧ t.tlmPending = false ∧ t.dir = .transmittingFrom) ∧
    (¬ serves → t.radio.count .armTx = s.radio.count .armTx) ∧
    (t.tlmPending = true → s.tlmPending = true ∨ i = .rxDone) ∧
    (¬ serves → s.tlmPending = true → i ≠ .start → i ≠ .reset → (∀ d, i ≠ .regWr 0 d) → t.tlmPending = true)

/-- 20_memory.md R70, 44_telemetry_arbiter.md R207: from a state that meets the invariants, an operation with an encoding writes
`PKT` only if the block owns it, or as the `rx_done` that hands it over, or as `RESET`. -/
def Obligations.PacketBufferOwnership : Prop :=
  ∀ (i : Instr) (s t : State), Inv s → i.encodable = true → exec i s = .next t → t.pkt ≠ s.pkt →
    pktOwner s.dir = .block ∨ i = .rxDone ∨ i = .reset

/-! ### System operations -/

/-- 45_system_ops.md R221 of a halted block; a running block ignores the write. -/
def Obligations.StartEffect : Prop :=
  ∀ s : State,
    (s.run = false → ∃ t, exec .start s = .next t ∧
      (∀ a, pktRead t a = if a = 19 then 0 else pktRead s a) ∧
      { t with pkt := s.pkt } =
        { s with run := true, connState := .syncing, channelIndex := 0, hopCounter := 0, rxCount := 0, linkQuality := 0,
                 missedCount := 0, pktSeen := false, tlmPending := false, err := 0, hopTimer := 500, dir := .receivingInto,
                 radio := s.radio ++ [.setIdle, .tune (htRead s 0) (htRead s 1) (htRead s 2) (htRead s 3),
                                      .armRx s.freqOffset] }) ∧
    (s.run = true → exec .start s = .next s)

/-- 45_system_ops.md R222 of a running block; a halted block ignores the write. -/
def Obligations.StopEffect : Prop :=
  ∀ s : State,
    (s.run = true → exec .stop s = .next { s with radio := s.radio ++ [.setIdle], dir := .idle, run := false }) ∧
    (s.run = false → exec .stop s = .next s)

/-- 45_system_ops.md R223: each case of a register write, in both modes. -/
def Obligations.RegWrEffect : Prop :=
  ∀ (s : State) (d : BitVec 16),
    (s.run = false → d.toNat % 2 = 1 → ∃ t, exec .start s = .next t ∧ exec (.regWr 0 d) s = .next t) ∧
    (s.run = true → d.toNat % 2 = 0 → ∃ t, exec .stop s = .next t ∧ exec (.regWr 0 d) s = .next t) ∧
    (s.run = true → d.toNat % 2 = 1 → exec (.regWr 0 d) s = .next s) ∧
    (s.run = false → d.toNat % 2 = 0 → exec (.regWr 0 d) s = .next s) ∧
    (s.run = false → exec (.regWr 1 d) s = .next
      { s with txid0 := BitVec.ofNat 8 (d.toNat % 256), txid1 := BitVec.ofNat 8 (d.toNat / 256) }) ∧
    (s.run = false → exec (.regWr 2 d) s = .next { s with freqOffset := BitVec.ofNat 8 (d.toNat % 256) }) ∧
    (s.run = true → exec (.regWr 1 d) s = .next s ∧ exec (.regWr 2 d) s = .next s) ∧
    (∀ n : BitVec 6, 3 ≤ n.toNat → exec (.regWr n d) s = .next s)

/-- 45_system_ops.md R224, 10_state.md R42: what each register number reads, in either mode, with no other effect. -/
def Obligations.RegRdTable : Prop :=
  ∀ s : State,
    let conn := match s.connState with
      | .syncing => 0
      | .locked => 1
      | .lost => 2
    let dir := match s.dir with
      | .idle => 0
      | .receivingInto => 1
      | .transmittingFrom => 2
    exec (.regRd 0) s = .next { s with hrdata := if s.run then 1 else 0 } ∧
    exec (.regRd 1) s = .next { s with hrdata := BitVec.ofNat 16 (256 * s.txid1.toNat + s.txid0.toNat) } ∧
    exec (.regRd 2) s = .next { s with hrdata := BitVec.ofNat 16 s.freqOffset.toNat } ∧
    exec (.regRd 3) s = .next { s with hrdata := BitVec.ofNat 16 (conn + 4 * dir + 16 * s.pktSeen.toNat + 32 * s.tlmPending.toNat) } ∧
    exec (.regRd 4) s = .next { s with hrdata := BitVec.ofNat 16 s.channelIndex.toNat } ∧
    exec (.regRd 5) s = .next { s with hrdata := BitVec.ofNat 16 s.hopCounter.toNat } ∧
    exec (.regRd 6) s = .next { s with hrdata := BitVec.ofNat 16 s.rxCount.toNat } ∧
    exec (.regRd 7) s = .next { s with hrdata := BitVec.ofNat 16 s.linkQuality.toNat } ∧
    exec (.regRd 8) s = .next { s with hrdata := s.missedCount } ∧
    exec (.regRd 9) s = .next { s with hrdata := BitVec.ofNat 16 s.rssi.toNat } ∧
    exec (.regRd 10) s = .next { s with hrdata := BitVec.ofNat 16 s.tlmId.toNat } ∧
    exec (.regRd 11) s = .next { s with hrdata := BitVec.ofNat 16 s.hopTimer.toNat } ∧
    exec (.regRd 12) s = .next { s with hrdata := BitVec.ofNat 16 s.err.toNat } ∧
    (∀ k : Fin 8, exec (.regRd (BitVec.ofNat 6 (16 + k.val))) s =
      .next { s with hrdata := BitVec.ofNat 16 s.chan[k].toNat }) ∧
    (∀ n : BitVec 6, (13 ≤ n.toNat ∧ n.toNat ≤ 15) ∨ 24 ≤ n.toNat → exec (.regRd n) s = .next { s with hrdata := 0 })

/-- 45_system_ops.md R225: one byte of one entry while halted, nothing else in any case. -/
def Obligations.HtWrEffect : Prop :=
  ∀ (s : State) (i : BitVec 6) (j : BitVec 2) (d : BitVec 16),
    (s.run = false → i.toNat < 47 → ∃ t, exec (.htWr i j d) s = .next t ∧
      (∀ a, htRead t a = if a = 4 * i.toNat + j.toNat then BitVec.ofNat 8 (d.toNat % 256) else htRead s a) ∧
      { t with ht := s.ht } = s) ∧
    (s.run = true ∨ 47 ≤ i.toNat → exec (.htWr i j d) s = .next s)

/-- 45_system_ops.md R227: `rst` overrides every other input of its sample; the state after `RESET` whatever the state before:
`HT`, the port lists and the environment are left alone, and a second `RESET` changes nothing. That `hrdata` is 0 is the last
sentence of 70_reset_and_hazards.md R270. -/
def Obligations.ResetEffect : Prop :=
  (∀ smp : Sample, smp.rst = true → sampleOps smp = [.reset]) ∧
  ∀ s : State, ∃ t, exec .reset s = .next t ∧
    (∀ a, pktRead t a = 0) ∧
    { t with pkt := s.pkt } =
      { s with run := false, dir := .idle, connState := .syncing, channelIndex := 0, hopCounter := 0, rxCount := 0,
               linkQuality := 0, missedCount := 0, hopTimer := 500, rssi := 0, tlmId := 0, chan := Vector.replicate 8 0,
               pktSeen := false, tlmPending := false, err := 0, txid0 := 0, txid1 := 0, freqOffset := 0, hrdata := 0 } ∧
    exec .reset t = .next t

/-- 70_reset_and_hazards.md R270: every value of the reset state the spec gives, and nothing emitted. That `State.reset` is the
state after power-up and one `RESET` is the model's choice (log entry 16). -/
def Obligations.ResetStateValues : Prop :=
  let s := State.reset
  s.run = false ∧ s.dir = .idle ∧ s.connState = .syncing ∧ s.channelIndex = 0 ∧ s.hopCounter = 0 ∧ s.rxCount = 0 ∧
  s.linkQuality = 0 ∧ s.missedCount = 0 ∧ s.hopTimer = 500 ∧ s.rssi = 0 ∧ s.tlmId = 0 ∧ (∀ k : Fin 8, s.chan[k] = 0) ∧
  s.pktSeen = false ∧ s.tlmPending = false ∧ s.err = 0 ∧ s.txid0 = 0 ∧ s.txid1 = 0 ∧ s.freqOffset = 0 ∧
  (∀ a, pktRead s a = 0) ∧ s.hrdata = 0 ∧ s.radio = [] ∧ s.out = []

/-- 45_system_ops.md R226: a call through the function port changes nothing but the port's result, which depends on the operands
alone. -/
def Obligations.FunctionPortIsPure : Prop :=
  ∀ i : Instr,
    (∃ f id0 id1, i = .validate f id0 id1) ∨ (∃ f, i = .decodeCh f) ∨ (∃ raw, i = .decodeRssi raw) ∨
      (∃ tid a0 a1 rs id0 id1 nIn d, i = .encodeTlm tid a0 a1 rs id0 id1 nIn d) ∨ (∃ sid val, i = .hubStuff sid val) →
    ∃ r, ∀ s : State, exec i s = .next { s with fnResult := some r }

/-- 20_memory.md R75, 60_exceptions.md R254: no operation of a running block but `RESET` changes the identity or the frequency
offset, and none at all changes the hop table. -/
def Obligations.RunningConfigurationIsFrozen : Prop :=
  ∀ (i : Instr) (s t : State), s.run = true → exec i s = .next t →
    t.ht = s.ht ∧ (i ≠ .reset → t.txid0 = s.txid0 ∧ t.txid1 = s.txid1 ∧ t.freqOffset = s.freqOffset)

/-- Who writes what, among the operations with an encoding: the index moves only at a hop event, `START` and `RESET`
(40_hop_scheduler.md R124); the values of a frame change only with a frame and at `RESET` (42_rssi_decoder.md R176, 10_state.md
R33, R34); the read port's output only at `REG_RD` and `RESET` (log entry 3); nothing changes the environment. -/
def Obligations.EachRegisterHasItsWriters : Prop :=
  ∀ (i : Instr) (s t : State), i.encodable = true → exec i s = .next t →
    (t.channelIndex ≠ s.channelIndex →
      (i = .tick ∧ s.run = true ∧ s.hopTimer = 1) ∨ i = .start ∨ i = .reset ∨ ∃ d, i = .regWr 0 d) ∧
    (t.rssi ≠ s.rssi ∨ t.chan ≠ s.chan ∨ t.tlmId ≠ s.tlmId → (i = .rxDone ∧ t.pktSeen = true) ∨ i = .reset) ∧
    (t.hrdata ≠ s.hrdata → i = .reset ∨ ∃ n, i = .regRd n) ∧
    t.inputs = s.inputs ∧ t.script = s.script

/-- 60_exceptions.md R254, 70_reset_and_hazards.md R281: a halted block drops every radio and timer event, and a running block the
completions its `dir` does not expect. -/
def Obligations.UnexpectedEventsAreDropped : Prop :=
  ∀ s : State,
    (s.run = false → ∀ i ∈ [Instr.tick, .ovfRx, .ovfTx, .ovfBoth, .rxDone, .txDone], exec i s = .next s) ∧
    (s.dir ≠ .receivingInto → exec .rxDone s = .next s) ∧
    (s.dir ≠ .transmittingFrom → exec .txDone s = .next s) ∧
    exec .nopEvent s = .next s

/-- 40_hop_scheduler.md R120: a micro-operation that is invoked while `run = 0` does nothing (that `exec` may invoke one on its
own is the model's choice, log entry 7). -/
def Obligations.HaltedMicroOperationsDoNothing : Prop :=
  ∀ (s : State) (i : Instr), s.run = false → i.encodable = false → exec i s = .next s

/-! ### Overflow and errors -/

/-- 60_exceptions.md R246, R247, R248: the errors raised, then one recovery; a halted block ignores the status. -/
def Obligations.OverflowEffect : Prop :=
  (∀ s : State, s.run = false → ∀ i ∈ [Instr.ovfRx, .ovfTx, .ovfBoth], exec i s = .next s) ∧
  ∀ s : State, s.run = true →
    let dir' := if s.dir = .idle then Dir.idle else .receivingInto
    let radio' := s.radio ++ (if s.dir = .idle then [.setIdle] else [.setIdle, .armRx s.freqOffset])
    exec .ovfRx s = .next { s with err := s.err ||| 0b000001, out := s.out ++ [.log 1], radio := radio', dir := dir' } ∧
    exec .ovfTx s = .next { s with err := s.err ||| 0b000010, out := s.out ++ [.log 2], radio := radio', dir := dir' } ∧
    exec .ovfBoth s = .next
      { s with err := s.err ||| 0b000011, out := s.out ++ [.log 1, .log 2], radio := radio', dir := dir' }

/-- 60_exceptions.md R249. -/
def Obligations.OvfRecoverEffect : Prop :=
  ∀ s : State, s.run = true →
    (s.dir = .idle → exec .ovfRecover s = .next { s with radio := s.radio ++ [.setIdle] }) ∧
    (s.dir ≠ .idle → exec .ovfRecover s = .next
      { s with radio := s.radio ++ [.setIdle, .armRx s.freqOffset], dir := .receivingInto })

/-- 10_state.md R37: an error flag once set is cleared only by `START` and `RESET`. -/
def Obligations.ErrorFlagsAreSticky : Prop :=
  ∀ (i : Instr) (s t : State), exec i s = .next t → i ≠ .start → i ≠ .reset → (∀ d, i ≠ .regWr 0 d) →
    ∀ k < 6, s.err.getLsbD k = true → t.err.getLsbD k = true

/-! ### Simultaneous events -/

/-- 70_reset_and_hazards.md R283, which the spec derives from R89, R121 and R182: a valid frame in the sample of the expiring tick
is served first: the frame that locks the block cuts the interval to 9 ticks, of which the tick takes one, and there is no hop
event; while locked, the hop event counts no miss. -/
def Obligations.FrameBeforeExpiringTick : Prop :=
  ∀ (s : State) (tail : List Stimulus),
    s.script = .sample { ev := 0b00101 } :: tail → s.run = true → s.dir = .receivingInto → s.hopTimer = 1 →
    pktValid Config.params s = true →
    (s.connState ≠ .locked → ∃ t, Host.Core.run core 2 s = .next t ∧
      t.hopTimer = 8 ∧ t.connState = .locked ∧ t.channelIndex = s.channelIndex ∧ t.hopCounter = s.hopCounter ∧
      t.pktSeen = true ∧ t.radio = [] ∧ t.out = [] ∧ t.script = tail) ∧
    (s.connState = .locked → ∃ t, Host.Core.run core 2 s = .next t ∧
      t.channelIndex.toNat = (s.channelIndex.toNat + 1) % 47 ∧ t.missedCount = s.missedCount ∧ t.pktSeen = false ∧
      .frameLost ∉ t.out ∧ t.script = tail)

/-- 70_reset_and_hazards.md R284, which the spec derives from R89, R204 and R123: a `tx_done` in the sample of the expiring tick
is served first and re-arms the reception; the hop event that follows cancels it with `SET_IDLE` and raises no TransmitTimeout. -/
def Obligations.TxDoneBeforeExpiringTick : Prop :=
  ∀ (s : State) (tail : List Stimulus),
    s.script = .sample { ev := 0b00011 } :: tail → s.run = true → s.dir = .transmittingFrom → s.hopTimer = 1 →
    ∃ u t, step s = .next u ∧ u.dir = .receivingInto ∧ u.radio = [.armRx s.freqOffset] ∧
      step u = .next t ∧ t.channelIndex.toNat = (s.channelIndex.toNat + 1) % 47 ∧
      .log 5 ∉ t.out ∧ t.err.getLsbD 4 = s.err.getLsbD 4 ∧ t.radio.head? = some .setIdle ∧ t.script = tail

/-- 70_reset_and_hazards.md R285, which the spec derives from R89: a host command is served before the events of its sample; the
two examples of the rule. -/
def Obligations.HostBeforeEvents : Prop :=
  (∀ (smp : Sample) (i : Instr), smp.rst = false → decodeHost smp.hw = .ok i → (sampleOps smp).head? = some i) ∧
  ∀ (s : State) (tail : List Stimulus),
    (s.script = .sample { hw := 0x2000001, ev := 0b00001 } :: tail → s.run = false →
      ∃ t, Host.Core.run core 2 s = .next t ∧ t.run = true ∧ t.hopTimer = 499 ∧ t.script = tail) ∧
    (s.script = .sample { hw := 0x2000000, ev := 0b00100 } :: tail → s.run = true →
      ∃ t, Host.Core.run core 2 s = .next t ∧ t.run = false ∧ t.dir = .idle ∧ t.rxCount = s.rxCount ∧ t.pkt = s.pkt ∧
        t.script = tail)
end

