-- ==== Sys2Proof/Laws/Config.lean ====
section
/-! SUPPORT. This hardware's parameter values, and that they are legal. -/

namespace Sys2Proof.Config

@[simp] theorem params_nHop : params.nHop = 47 := rfl
@[simp] theorem params_chMask : params.chMask = 0x0FFF := rfl
@[simp] theorem params_idCheckEn : params.idCheckEn = true := rfl
@[simp] theorem params_rephaseTicks : params.rephaseTicks = none := rfl
@[simp] theorem params_tlmExtraSteps : params.tlmExtraSteps = 0 := rfl
@[simp] theorem params_extTlmEn : params.extTlmEn = false := rfl
@[simp] theorem params_hubTlmEn : params.hubTlmEn = false := rfl

/-- The parameters of this hardware are among those R8 admits. -/
theorem params_legal : params.legal = true := by decide

end Sys2Proof.Config
end

