-- ==== Sys2Proof/Laws/Decode.lean ====
section
/-! SUPPORT. The fields of a host word and the cases of the sample decoder. -/

namespace Sys2Proof

/-! ### Fields of the host word -/

@[simp] theorem hostCmd_hostWord (c : BitVec 2) (a : BitVec 6) (b : BitVec 2) (d : BitVec 16) :
    hostCmd (hostWord c a b d) = c := by
  unfold hostCmd hostWord; ext i hi; simp; grind

@[simp] theorem hostAddr_hostWord (c : BitVec 2) (a : BitVec 6) (b : BitVec 2) (d : BitVec 16) :
    hostAddr (hostWord c a b d) = a := by
  unfold hostAddr hostWord; ext i hi; simp; grind

@[simp] theorem hostSub_hostWord (c : BitVec 2) (a : BitVec 6) (b : BitVec 2) (d : BitVec 16) :
    hostSub (hostWord c a b d) = b := by
  unfold hostSub hostWord; ext i hi; simp; grind

@[simp] theorem hostData_hostWord (c : BitVec 2) (a : BitVec 6) (b : BitVec 2) (d : BitVec 16) :
    hostData (hostWord c a b d) = d := by
  unfold hostData hostWord; ext i hi; simp; grind

/-! ### The sample decoder -/

@[simp] theorem decodeHost_zero : decodeHost 0#26 = .error .noHostCommand := by simp [decodeHost, hostCmd]

@[simp] theorem decodeEvent_zero : decodeEvent 0#5 = .error .noEvent := rfl

@[simp] theorem decodeFn_zero (a : FnArgs) : decodeFn 0#3 a = .error .noFunction := rfl

/-- A sample in which nothing is asserted carries no operation, whatever stands at the function port's operands. -/
@[simp] theorem decodeSample_quiet (a : FnArgs) :
    decodeSample { rst := false, hw := 0#26, ev := 0#5, fnSel := 0#3, fnArgs := a } = .error .noFunction := by
  simp [decodeSample, decodeEventPort, decodeFnPort]

theorem decodeSample_rst {smp : Sample} (h : smp.rst = true) : decodeSample smp = .ok (.reset, {}) := by
  simp [decodeSample, h]

theorem decodeSample_host {smp : Sample} {i : Instr} (h : smp.rst = false) (hh : decodeHost smp.hw = .ok i) :
    decodeSample smp = .ok (i, { smp with hw := 0 }) := by
  simp [decodeSample, h, hh]

theorem decodeSample_event {smp : Sample} {r : Reject} {i : Instr} {ev : BitVec 5} (h : smp.rst = false)
    (hh : decodeHost smp.hw = .error r) (he : decodeEvent smp.ev = .ok (i, ev)) :
    decodeSample smp = .ok (i, { smp with ev := ev }) := by
  simp [decodeSample, h, hh, decodeEventPort, he]

theorem decodeSample_fn {smp : Sample} {r r' : Reject} {i : Instr} (h : smp.rst = false)
    (hh : decodeHost smp.hw = .error r) (he : decodeEvent smp.ev = .error r')
    (hf : decodeFn smp.fnSel smp.fnArgs = .ok i) :
    decodeSample smp = .ok (i, { smp with fnSel := 0 }) := by
  simp [decodeSample, h, hh, decodeEventPort, he, decodeFnPort, hf]

/-- The operations an event vector asserts, in the order of 30_encoding.md R89. -/
def eventOps (ev : BitVec 5) : List Instr :=
  (if evOvf ev = 1 then [.ovfRx] else if evOvf ev = 2 then [.ovfTx] else if evOvf ev = 3 then [.ovfBoth] else []) ++
  (if evRxDone ev then [.rxDone] else []) ++ (if evTxDone ev then [.txDone] else []) ++ (if evTick ev then [.tick] else [])

/-- Serving one event takes it from the head of the list. -/
theorem eventOps_eq (ev : BitVec 5) :
    eventOps ev = match decodeEvent ev with
      | .ok (i, ev') => i :: eventOps ev'
      | .error _ => [] := by
  revert ev; decide

/-- No event is left exactly when nothing is asserted. -/
theorem decodeEvent_error_iff (ev : BitVec 5) : (decodeEvent ev).toOption = none ↔ ev = 0 := by
  revert ev; decide

/-! ### What the decoder answers -/

theorem decodeHost_encodable {hw : BitVec 26} {i : Instr} (h : decodeHost hw = .ok i) : i.encodable = true := by
  unfold decodeHost at h
  split_ifs at h <;> cases h <;> rfl

theorem decodeEvent_encodable {ev ev' : BitVec 5} {i : Instr} (h : decodeEvent ev = .ok (i, ev')) : i.encodable = true := by
  unfold decodeEvent at h
  split_ifs at h <;> cases h <;> rfl

theorem decodeFn_encodable {sel : BitVec 3} {a : FnArgs} {i : Instr} (h : decodeFn sel a = .ok i) : i.encodable = true := by
  unfold decodeFn at h
  split_ifs at h <;> cases h <;> rfl

/-- The decoder answers only operations that have an encoding. -/
theorem decodeSample_encodable {smp rest : Sample} {i : Instr} (h : decodeSample smp = .ok (i, rest)) :
    i.encodable = true := by
  unfold decodeSample decodeEventPort decodeFnPort at h
  split at h
  · cases h; rfl
  · split at h
    · cases h; exact decodeHost_encodable ‹_›
    · split at h
      · cases h; exact decodeEvent_encodable ‹_›
      · split at h <;> cases h
        exact decodeFn_encodable ‹_›

/-- The operations of a sample without reset: host command, events, function call. -/
theorem sampleOps_of_rst_false {smp : Sample} (h : smp.rst = false) :
    sampleOps smp =
      (match decodeHost smp.hw with
       | .ok i => [i]
       | .error _ => []) ++ eventOps smp.ev ++
      (match decodeFn smp.fnSel smp.fnArgs with
       | .ok i => [i]
       | .error _ => []) := by
  cases hh : decodeHost smp.hw <;> cases hf : decodeFn smp.fnSel smp.fnArgs <;>
    simp [sampleOps, h, hh, hf, eventOps]

/-- Decoding a sample takes the head of its list of operations. -/
theorem sampleOps_eq (smp : Sample) : sampleOps smp = match decodeSample smp with
   | .ok (i, rest) => i :: sampleOps rest
   | .error _ => [] := by
  have ev := eventOps_eq smp.ev
  cases h : smp.rst with
  | true =>
    have q : sampleOps {} = [] := by simp [sampleOps]; decide
    simp only [decodeSample_rst h, q]
    simp [sampleOps, h]
  | false =>
    rw [sampleOps_of_rst_false h]
    cases hh : decodeHost smp.hw with
    | ok i =>
      simp only [decodeSample_host h hh]
      rw [sampleOps_of_rst_false (by exact h)]
      simp
    | error r =>
      cases he : decodeEvent smp.ev with
      | ok x =>
        obtain ⟨i, ev'⟩ := x
        rw [he] at ev
        rw [decodeSample_event h hh he, ev]
        simp only [sampleOps_of_rst_false (smp := { smp with ev := ev' }) h, hh]
        rfl
      | error r =>
        rw [he] at ev
        rw [ev]
        cases hf : decodeFn smp.fnSel smp.fnArgs with
        | ok i =>
          rw [decodeSample_fn h hh he hf]
          simp only [sampleOps_of_rst_false (smp := { smp with fnSel := 0 }) h, hh, ev]; simp
        | error r => simp only [decodeSample, decodeEventPort, decodeFnPort, h, hh, he, hf]; simp

end Sys2Proof
end

