-- ==== Sys2Proof/Laws/State.lean ====
section
/-! SUPPORT. What each named update of the state does to each field, so that no proof unfolds a record update. -/

namespace Sys2Proof.Machine

variable (s : State)

/-! ### `setPktSeen` -/
@[simp] theorem setPktSeen_run (b : Bool) : (setPktSeen b s).run = s.run := rfl
@[simp] theorem setPktSeen_dir (b : Bool) : (setPktSeen b s).dir = s.dir := rfl
@[simp] theorem setPktSeen_connState (b : Bool) : (setPktSeen b s).connState = s.connState := rfl
@[simp] theorem setPktSeen_channelIndex (b : Bool) : (setPktSeen b s).channelIndex = s.channelIndex := rfl
@[simp] theorem setPktSeen_hopCounter (b : Bool) : (setPktSeen b s).hopCounter = s.hopCounter := rfl
@[simp] theorem setPktSeen_rxCount (b : Bool) : (setPktSeen b s).rxCount = s.rxCount := rfl
@[simp] theorem setPktSeen_linkQuality (b : Bool) : (setPktSeen b s).linkQuality = s.linkQuality := rfl
@[simp] theorem setPktSeen_missedCount (b : Bool) : (setPktSeen b s).missedCount = s.missedCount := rfl
@[simp] theorem setPktSeen_hopTimer (b : Bool) : (setPktSeen b s).hopTimer = s.hopTimer := rfl
@[simp] theorem setPktSeen_rssi (b : Bool) : (setPktSeen b s).rssi = s.rssi := rfl
@[simp] theorem setPktSeen_tlmId (b : Bool) : (setPktSeen b s).tlmId = s.tlmId := rfl
@[simp] theorem setPktSeen_chan (b : Bool) : (setPktSeen b s).chan = s.chan := rfl
@[simp] theorem setPktSeen_pktSeen (b : Bool) : (setPktSeen b s).pktSeen = b := rfl
@[simp] theorem setPktSeen_tlmPending (b : Bool) : (setPktSeen b s).tlmPending = s.tlmPending := rfl
@[simp] theorem setPktSeen_err (b : Bool) : (setPktSeen b s).err = s.err := rfl
@[simp] theorem setPktSeen_txid0 (b : Bool) : (setPktSeen b s).txid0 = s.txid0 := rfl
@[simp] theorem setPktSeen_txid1 (b : Bool) : (setPktSeen b s).txid1 = s.txid1 := rfl
@[simp] theorem setPktSeen_freqOffset (b : Bool) : (setPktSeen b s).freqOffset = s.freqOffset := rfl
@[simp] theorem setPktSeen_pkt (b : Bool) : (setPktSeen b s).pkt = s.pkt := rfl
@[simp] theorem setPktSeen_ht (b : Bool) : (setPktSeen b s).ht = s.ht := rfl
@[simp] theorem setPktSeen_hrdata (b : Bool) : (setPktSeen b s).hrdata = s.hrdata := rfl
@[simp] theorem setPktSeen_radio (b : Bool) : (setPktSeen b s).radio = s.radio := rfl
@[simp] theorem setPktSeen_out (b : Bool) : (setPktSeen b s).out = s.out := rfl
@[simp] theorem setPktSeen_fnResult (b : Bool) : (setPktSeen b s).fnResult = s.fnResult := rfl
@[simp] theorem setPktSeen_inputs (b : Bool) : (setPktSeen b s).inputs = s.inputs := rfl
@[simp] theorem setPktSeen_script (b : Bool) : (setPktSeen b s).script = s.script := rfl

/-! ### `setTlmPending` -/
@[simp] theorem setTlmPending_run (b : Bool) : (setTlmPending b s).run = s.run := rfl
@[simp] theorem setTlmPending_dir (b : Bool) : (setTlmPending b s).dir = s.dir := rfl
@[simp] theorem setTlmPending_connState (b : Bool) : (setTlmPending b s).connState = s.connState := rfl
@[simp] theorem setTlmPending_channelIndex (b : Bool) : (setTlmPending b s).channelIndex = s.channelIndex := rfl
@[simp] theorem setTlmPending_hopCounter (b : Bool) : (setTlmPending b s).hopCounter = s.hopCounter := rfl
@[simp] theorem setTlmPending_rxCount (b : Bool) : (setTlmPending b s).rxCount = s.rxCount := rfl
@[simp] theorem setTlmPending_linkQuality (b : Bool) : (setTlmPending b s).linkQuality = s.linkQuality := rfl
@[simp] theorem setTlmPending_missedCount (b : Bool) : (setTlmPending b s).missedCount = s.missedCount := rfl
@[simp] theorem setTlmPending_hopTimer (b : Bool) : (setTlmPending b s).hopTimer = s.hopTimer := rfl
@[simp] theorem setTlmPending_rssi (b : Bool) : (setTlmPending b s).rssi = s.rssi := rfl
@[simp] theorem setTlmPending_tlmId (b : Bool) : (setTlmPending b s).tlmId = s.tlmId := rfl
@[simp] theorem setTlmPending_chan (b : Bool) : (setTlmPending b s).chan = s.chan := rfl
@[simp] theorem setTlmPending_pktSeen (b : Bool) : (setTlmPending b s).pktSeen = s.pktSeen := rfl
@[simp] theorem setTlmPending_tlmPending (b : Bool) : (setTlmPending b s).tlmPending = b := rfl
@[simp] theorem setTlmPending_err (b : Bool) : (setTlmPending b s).err = s.err := rfl
@[simp] theorem setTlmPending_txid0 (b : Bool) : (setTlmPending b s).txid0 = s.txid0 := rfl
@[simp] theorem setTlmPending_txid1 (b : Bool) : (setTlmPending b s).txid1 = s.txid1 := rfl
@[simp] theorem setTlmPending_freqOffset (b : Bool) : (setTlmPending b s).freqOffset = s.freqOffset := rfl
@[simp] theorem setTlmPending_pkt (b : Bool) : (setTlmPending b s).pkt = s.pkt := rfl
@[simp] theorem setTlmPending_ht (b : Bool) : (setTlmPending b s).ht = s.ht := rfl
@[simp] theorem setTlmPending_hrdata (b : Bool) : (setTlmPending b s).hrdata = s.hrdata := rfl
@[simp] theorem setTlmPending_radio (b : Bool) : (setTlmPending b s).radio = s.radio := rfl
@[simp] theorem setTlmPending_out (b : Bool) : (setTlmPending b s).out = s.out := rfl
@[simp] theorem setTlmPending_fnResult (b : Bool) : (setTlmPending b s).fnResult = s.fnResult := rfl
@[simp] theorem setTlmPending_inputs (b : Bool) : (setTlmPending b s).inputs = s.inputs := rfl
@[simp] theorem setTlmPending_script (b : Bool) : (setTlmPending b s).script = s.script := rfl

/-! ### `clearFlags` -/
@[simp] theorem clearFlags_run : (clearFlags s).run = s.run := rfl
@[simp] theorem clearFlags_dir : (clearFlags s).dir = s.dir := rfl
@[simp] theorem clearFlags_connState : (clearFlags s).connState = s.connState := rfl
@[simp] theorem clearFlags_channelIndex : (clearFlags s).channelIndex = s.channelIndex := rfl
@[simp] theorem clearFlags_hopCounter : (clearFlags s).hopCounter = s.hopCounter := rfl
@[simp] theorem clearFlags_rxCount : (clearFlags s).rxCount = s.rxCount := rfl
@[simp] theorem clearFlags_linkQuality : (clearFlags s).linkQuality = s.linkQuality := rfl
@[simp] theorem clearFlags_missedCount : (clearFlags s).missedCount = s.missedCount := rfl
@[simp] theorem clearFlags_hopTimer : (clearFlags s).hopTimer = s.hopTimer := rfl
@[simp] theorem clearFlags_rssi : (clearFlags s).rssi = s.rssi := rfl
@[simp] theorem clearFlags_tlmId : (clearFlags s).tlmId = s.tlmId := rfl
@[simp] theorem clearFlags_chan : (clearFlags s).chan = s.chan := rfl
@[simp] theorem clearFlags_pktSeen : (clearFlags s).pktSeen = false := rfl
@[simp] theorem clearFlags_tlmPending : (clearFlags s).tlmPending = false := rfl
@[simp] theorem clearFlags_err : (clearFlags s).err = 0 := rfl
@[simp] theorem clearFlags_txid0 : (clearFlags s).txid0 = s.txid0 := rfl
@[simp] theorem clearFlags_txid1 : (clearFlags s).txid1 = s.txid1 := rfl
@[simp] theorem clearFlags_freqOffset : (clearFlags s).freqOffset = s.freqOffset := rfl
@[simp] theorem clearFlags_pkt : (clearFlags s).pkt = s.pkt := rfl
@[simp] theorem clearFlags_ht : (clearFlags s).ht = s.ht := rfl
@[simp] theorem clearFlags_hrdata : (clearFlags s).hrdata = s.hrdata := rfl
@[simp] theorem clearFlags_radio : (clearFlags s).radio = s.radio := rfl
@[simp] theorem clearFlags_out : (clearFlags s).out = s.out := rfl
@[simp] theorem clearFlags_fnResult : (clearFlags s).fnResult = s.fnResult := rfl
@[simp] theorem clearFlags_inputs : (clearFlags s).inputs = s.inputs := rfl
@[simp] theorem clearFlags_script : (clearFlags s).script = s.script := rfl

/-! ### `pktWrite` -/
@[simp] theorem pktWrite_run (i : Nat) (v : Byte) : (pktWrite i v s).run = s.run := rfl
@[simp] theorem pktWrite_dir (i : Nat) (v : Byte) : (pktWrite i v s).dir = s.dir := rfl
@[simp] theorem pktWrite_connState (i : Nat) (v : Byte) : (pktWrite i v s).connState = s.connState := rfl
@[simp] theorem pktWrite_channelIndex (i : Nat) (v : Byte) : (pktWrite i v s).channelIndex = s.channelIndex := rfl
@[simp] theorem pktWrite_hopCounter (i : Nat) (v : Byte) : (pktWrite i v s).hopCounter = s.hopCounter := rfl
@[simp] theorem pktWrite_rxCount (i : Nat) (v : Byte) : (pktWrite i v s).rxCount = s.rxCount := rfl
@[simp] theorem pktWrite_linkQuality (i : Nat) (v : Byte) : (pktWrite i v s).linkQuality = s.linkQuality := rfl
@[simp] theorem pktWrite_missedCount (i : Nat) (v : Byte) : (pktWrite i v s).missedCount = s.missedCount := rfl
@[simp] theorem pktWrite_hopTimer (i : Nat) (v : Byte) : (pktWrite i v s).hopTimer = s.hopTimer := rfl
@[simp] theorem pktWrite_rssi (i : Nat) (v : Byte) : (pktWrite i v s).rssi = s.rssi := rfl
@[simp] theorem pktWrite_tlmId (i : Nat) (v : Byte) : (pktWrite i v s).tlmId = s.tlmId := rfl
@[simp] theorem pktWrite_chan (i : Nat) (v : Byte) : (pktWrite i v s).chan = s.chan := rfl
@[simp] theorem pktWrite_pktSeen (i : Nat) (v : Byte) : (pktWrite i v s).pktSeen = s.pktSeen := rfl
@[simp] theorem pktWrite_tlmPending (i : Nat) (v : Byte) : (pktWrite i v s).tlmPending = s.tlmPending := rfl
@[simp] theorem pktWrite_err (i : Nat) (v : Byte) : (pktWrite i v s).err = s.err := rfl
@[simp] theorem pktWrite_txid0 (i : Nat) (v : Byte) : (pktWrite i v s).txid0 = s.txid0 := rfl
@[simp] theorem pktWrite_txid1 (i : Nat) (v : Byte) : (pktWrite i v s).txid1 = s.txid1 := rfl
@[simp] theorem pktWrite_freqOffset (i : Nat) (v : Byte) : (pktWrite i v s).freqOffset = s.freqOffset := rfl
@[simp] theorem pktWrite_pkt (i : Nat) (v : Byte) : (pktWrite i v s).pkt = Memory.write pktFill s.pkt i v := rfl
@[simp] theorem pktWrite_ht (i : Nat) (v : Byte) : (pktWrite i v s).ht = s.ht := rfl
@[simp] theorem pktWrite_hrdata (i : Nat) (v : Byte) : (pktWrite i v s).hrdata = s.hrdata := rfl
@[simp] theorem pktWrite_radio (i : Nat) (v : Byte) : (pktWrite i v s).radio = s.radio := rfl
@[simp] theorem pktWrite_out (i : Nat) (v : Byte) : (pktWrite i v s).out = s.out := rfl
@[simp] theorem pktWrite_fnResult (i : Nat) (v : Byte) : (pktWrite i v s).fnResult = s.fnResult := rfl
@[simp] theorem pktWrite_inputs (i : Nat) (v : Byte) : (pktWrite i v s).inputs = s.inputs := rfl
@[simp] theorem pktWrite_script (i : Nat) (v : Byte) : (pktWrite i v s).script = s.script := rfl

/-! ### `storeFrame` -/
@[simp] theorem storeFrame_run (f : Frame) : (storeFrame f s).run = s.run := rfl
@[simp] theorem storeFrame_dir (f : Frame) : (storeFrame f s).dir = s.dir := rfl
@[simp] theorem storeFrame_connState (f : Frame) : (storeFrame f s).connState = s.connState := rfl
@[simp] theorem storeFrame_channelIndex (f : Frame) : (storeFrame f s).channelIndex = s.channelIndex := rfl
@[simp] theorem storeFrame_hopCounter (f : Frame) : (storeFrame f s).hopCounter = s.hopCounter := rfl
@[simp] theorem storeFrame_rxCount (f : Frame) : (storeFrame f s).rxCount = s.rxCount := rfl
@[simp] theorem storeFrame_linkQuality (f : Frame) : (storeFrame f s).linkQuality = s.linkQuality := rfl
@[simp] theorem storeFrame_missedCount (f : Frame) : (storeFrame f s).missedCount = s.missedCount := rfl
@[simp] theorem storeFrame_hopTimer (f : Frame) : (storeFrame f s).hopTimer = s.hopTimer := rfl
@[simp] theorem storeFrame_rssi (f : Frame) : (storeFrame f s).rssi = s.rssi := rfl
@[simp] theorem storeFrame_tlmId (f : Frame) : (storeFrame f s).tlmId = s.tlmId := rfl
@[simp] theorem storeFrame_chan (f : Frame) : (storeFrame f s).chan = s.chan := rfl
@[simp] theorem storeFrame_pktSeen (f : Frame) : (storeFrame f s).pktSeen = s.pktSeen := rfl
@[simp] theorem storeFrame_tlmPending (f : Frame) : (storeFrame f s).tlmPending = s.tlmPending := rfl
@[simp] theorem storeFrame_err (f : Frame) : (storeFrame f s).err = s.err := rfl
@[simp] theorem storeFrame_txid0 (f : Frame) : (storeFrame f s).txid0 = s.txid0 := rfl
@[simp] theorem storeFrame_txid1 (f : Frame) : (storeFrame f s).txid1 = s.txid1 := rfl
@[simp] theorem storeFrame_freqOffset (f : Frame) : (storeFrame f s).freqOffset = s.freqOffset := rfl
@[simp] theorem storeFrame_pkt (f : Frame) : (storeFrame f s).pkt = Memory.writeAll pktFill s.pkt 0 f.toList := rfl
@[simp] theorem storeFrame_ht (f : Frame) : (storeFrame f s).ht = s.ht := rfl
@[simp] theorem storeFrame_hrdata (f : Frame) : (storeFrame f s).hrdata = s.hrdata := rfl
@[simp] theorem storeFrame_radio (f : Frame) : (storeFrame f s).radio = s.radio := rfl
@[simp] theorem storeFrame_out (f : Frame) : (storeFrame f s).out = s.out := rfl
@[simp] theorem storeFrame_fnResult (f : Frame) : (storeFrame f s).fnResult = s.fnResult := rfl
@[simp] theorem storeFrame_inputs (f : Frame) : (storeFrame f s).inputs = s.inputs := rfl
@[simp] theorem storeFrame_script (f : Frame) : (storeFrame f s).script = s.script := rfl

/-! ### `htWrite` -/
@[simp] theorem htWrite_run (a : Nat) (v : Byte) : (htWrite a v s).run = s.run := rfl
@[simp] theorem htWrite_dir (a : Nat) (v : Byte) : (htWrite a v s).dir = s.dir := rfl
@[simp] theorem htWrite_connState (a : Nat) (v : Byte) : (htWrite a v s).connState = s.connState := rfl
@[simp] theorem htWrite_channelIndex (a : Nat) (v : Byte) : (htWrite a v s).channelIndex = s.channelIndex := rfl
@[simp] theorem htWrite_hopCounter (a : Nat) (v : Byte) : (htWrite a v s).hopCounter = s.hopCounter := rfl
@[simp] theorem htWrite_rxCount (a : Nat) (v : Byte) : (htWrite a v s).rxCount = s.rxCount := rfl
@[simp] theorem htWrite_linkQuality (a : Nat) (v : Byte) : (htWrite a v s).linkQuality = s.linkQuality := rfl
@[simp] theorem htWrite_missedCount (a : Nat) (v : Byte) : (htWrite a v s).missedCount = s.missedCount := rfl
@[simp] theorem htWrite_hopTimer (a : Nat) (v : Byte) : (htWrite a v s).hopTimer = s.hopTimer := rfl
@[simp] theorem htWrite_rssi (a : Nat) (v : Byte) : (htWrite a v s).rssi = s.rssi := rfl
@[simp] theorem htWrite_tlmId (a : Nat) (v : Byte) : (htWrite a v s).tlmId = s.tlmId := rfl
@[simp] theorem htWrite_chan (a : Nat) (v : Byte) : (htWrite a v s).chan = s.chan := rfl
@[simp] theorem htWrite_pktSeen (a : Nat) (v : Byte) : (htWrite a v s).pktSeen = s.pktSeen := rfl
@[simp] theorem htWrite_tlmPending (a : Nat) (v : Byte) : (htWrite a v s).tlmPending = s.tlmPending := rfl
@[simp] theorem htWrite_err (a : Nat) (v : Byte) : (htWrite a v s).err = s.err := rfl
@[simp] theorem htWrite_txid0 (a : Nat) (v : Byte) : (htWrite a v s).txid0 = s.txid0 := rfl
@[simp] theorem htWrite_txid1 (a : Nat) (v : Byte) : (htWrite a v s).txid1 = s.txid1 := rfl
@[simp] theorem htWrite_freqOffset (a : Nat) (v : Byte) : (htWrite a v s).freqOffset = s.freqOffset := rfl
@[simp] theorem htWrite_pkt (a : Nat) (v : Byte) : (htWrite a v s).pkt = s.pkt := rfl
@[simp] theorem htWrite_ht (a : Nat) (v : Byte) : (htWrite a v s).ht = Memory.write htFill s.ht a v := rfl
@[simp] theorem htWrite_hrdata (a : Nat) (v : Byte) : (htWrite a v s).hrdata = s.hrdata := rfl
@[simp] theorem htWrite_radio (a : Nat) (v : Byte) : (htWrite a v s).radio = s.radio := rfl
@[simp] theorem htWrite_out (a : Nat) (v : Byte) : (htWrite a v s).out = s.out := rfl
@[simp] theorem htWrite_fnResult (a : Nat) (v : Byte) : (htWrite a v s).fnResult = s.fnResult := rfl
@[simp] theorem htWrite_inputs (a : Nat) (v : Byte) : (htWrite a v s).inputs = s.inputs := rfl
@[simp] theorem htWrite_script (a : Nat) (v : Byte) : (htWrite a v s).script = s.script := rfl

/-! ### `emitRadio` -/
@[simp] theorem emitRadio_run (c : RadioCmd) : (emitRadio c s).run = s.run := rfl
@[simp] theorem emitRadio_dir (c : RadioCmd) : (emitRadio c s).dir = s.dir := rfl
@[simp] theorem emitRadio_connState (c : RadioCmd) : (emitRadio c s).connState = s.connState := rfl
@[simp] theorem emitRadio_channelIndex (c : RadioCmd) : (emitRadio c s).channelIndex = s.channelIndex := rfl
@[simp] theorem emitRadio_hopCounter (c : RadioCmd) : (emitRadio c s).hopCounter = s.hopCounter := rfl
@[simp] theorem emitRadio_rxCount (c : RadioCmd) : (emitRadio c s).rxCount = s.rxCount := rfl
@[simp] theorem emitRadio_linkQuality (c : RadioCmd) : (emitRadio c s).linkQuality = s.linkQuality := rfl
@[simp] theorem emitRadio_missedCount (c : RadioCmd) : (emitRadio c s).missedCount = s.missedCount := rfl
@[simp] theorem emitRadio_hopTimer (c : RadioCmd) : (emitRadio c s).hopTimer = s.hopTimer := rfl
@[simp] theorem emitRadio_rssi (c : RadioCmd) : (emitRadio c s).rssi = s.rssi := rfl
@[simp] theorem emitRadio_tlmId (c : RadioCmd) : (emitRadio c s).tlmId = s.tlmId := rfl
@[simp] theorem emitRadio_chan (c : RadioCmd) : (emitRadio c s).chan = s.chan := rfl
@[simp] theorem emitRadio_pktSeen (c : RadioCmd) : (emitRadio c s).pktSeen = s.pktSeen := rfl
@[simp] theorem emitRadio_tlmPending (c : RadioCmd) : (emitRadio c s).tlmPending = s.tlmPending := rfl
@[simp] theorem emitRadio_err (c : RadioCmd) : (emitRadio c s).err = s.err := rfl
@[simp] theorem emitRadio_txid0 (c : RadioCmd) : (emitRadio c s).txid0 = s.txid0 := rfl
@[simp] theorem emitRadio_txid1 (c : RadioCmd) : (emitRadio c s).txid1 = s.txid1 := rfl
@[simp] theorem emitRadio_freqOffset (c : RadioCmd) : (emitRadio c s).freqOffset = s.freqOffset := rfl
@[simp] theorem emitRadio_pkt (c : RadioCmd) : (emitRadio c s).pkt = s.pkt := rfl
@[simp] theorem emitRadio_ht (c : RadioCmd) : (emitRadio c s).ht = s.ht := rfl
@[simp] theorem emitRadio_hrdata (c : RadioCmd) : (emitRadio c s).hrdata = s.hrdata := rfl
@[simp] theorem emitRadio_radio (c : RadioCmd) : (emitRadio c s).radio = s.radio ++ [c] := rfl
@[simp] theorem emitRadio_out (c : RadioCmd) : (emitRadio c s).out = s.out := rfl
@[simp] theorem emitRadio_fnResult (c : RadioCmd) : (emitRadio c s).fnResult = s.fnResult := rfl
@[simp] theorem emitRadio_inputs (c : RadioCmd) : (emitRadio c s).inputs = s.inputs := rfl
@[simp] theorem emitRadio_script (c : RadioCmd) : (emitRadio c s).script = s.script := rfl

/-! ### `emitOut` -/
@[simp] theorem emitOut_run (e : OutEvent) : (emitOut e s).run = s.run := rfl
@[simp] theorem emitOut_dir (e : OutEvent) : (emitOut e s).dir = s.dir := rfl
@[simp] theorem emitOut_connState (e : OutEvent) : (emitOut e s).connState = s.connState := rfl
@[simp] theorem emitOut_channelIndex (e : OutEvent) : (emitOut e s).channelIndex = s.channelIndex := rfl
@[simp] theorem emitOut_hopCounter (e : OutEvent) : (emitOut e s).hopCounter = s.hopCounter := rfl
@[simp] theorem emitOut_rxCount (e : OutEvent) : (emitOut e s).rxCount = s.rxCount := rfl
@[simp] theorem emitOut_linkQuality (e : OutEvent) : (emitOut e s).linkQuality = s.linkQuality := rfl
@[simp] theorem emitOut_missedCount (e : OutEvent) : (emitOut e s).missedCount = s.missedCount := rfl
@[simp] theorem emitOut_hopTimer (e : OutEvent) : (emitOut e s).hopTimer = s.hopTimer := rfl
@[simp] theorem emitOut_rssi (e : OutEvent) : (emitOut e s).rssi = s.rssi := rfl
@[simp] theorem emitOut_tlmId (e : OutEvent) : (emitOut e s).tlmId = s.tlmId := rfl
@[simp] theorem emitOut_chan (e : OutEvent) : (emitOut e s).chan = s.chan := rfl
@[simp] theorem emitOut_pktSeen (e : OutEvent) : (emitOut e s).pktSeen = s.pktSeen := rfl
@[simp] theorem emitOut_tlmPending (e : OutEvent) : (emitOut e s).tlmPending = s.tlmPending := rfl
@[simp] theorem emitOut_err (e : OutEvent) : (emitOut e s).err = s.err := rfl
@[simp] theorem emitOut_txid0 (e : OutEvent) : (emitOut e s).txid0 = s.txid0 := rfl
@[simp] theorem emitOut_txid1 (e : OutEvent) : (emitOut e s).txid1 = s.txid1 := rfl
@[simp] theorem emitOut_freqOffset (e : OutEvent) : (emitOut e s).freqOffset = s.freqOffset := rfl
@[simp] theorem emitOut_pkt (e : OutEvent) : (emitOut e s).pkt = s.pkt := rfl
@[simp] theorem emitOut_ht (e : OutEvent) : (emitOut e s).ht = s.ht := rfl
@[simp] theorem emitOut_hrdata (e : OutEvent) : (emitOut e s).hrdata = s.hrdata := rfl
@[simp] theorem emitOut_radio (e : OutEvent) : (emitOut e s).radio = s.radio := rfl
@[simp] theorem emitOut_out (e : OutEvent) : (emitOut e s).out = s.out ++ [e] := rfl
@[simp] theorem emitOut_fnResult (e : OutEvent) : (emitOut e s).fnResult = s.fnResult := rfl
@[simp] theorem emitOut_inputs (e : OutEvent) : (emitOut e s).inputs = s.inputs := rfl
@[simp] theorem emitOut_script (e : OutEvent) : (emitOut e s).script = s.script := rfl

/-! ### `setDir` -/
@[simp] theorem setDir_run (d : Dir) : (setDir d s).run = s.run := rfl
@[simp] theorem setDir_dir (d : Dir) : (setDir d s).dir = d := rfl
@[simp] theorem setDir_connState (d : Dir) : (setDir d s).connState = s.connState := rfl
@[simp] theorem setDir_channelIndex (d : Dir) : (setDir d s).channelIndex = s.channelIndex := rfl
@[simp] theorem setDir_hopCounter (d : Dir) : (setDir d s).hopCounter = s.hopCounter := rfl
@[simp] theorem setDir_rxCount (d : Dir) : (setDir d s).rxCount = s.rxCount := rfl
@[simp] theorem setDir_linkQuality (d : Dir) : (setDir d s).linkQuality = s.linkQuality := rfl
@[simp] theorem setDir_missedCount (d : Dir) : (setDir d s).missedCount = s.missedCount := rfl
@[simp] theorem setDir_hopTimer (d : Dir) : (setDir d s).hopTimer = s.hopTimer := rfl
@[simp] theorem setDir_rssi (d : Dir) : (setDir d s).rssi = s.rssi := rfl
@[simp] theorem setDir_tlmId (d : Dir) : (setDir d s).tlmId = s.tlmId := rfl
@[simp] theorem setDir_chan (d : Dir) : (setDir d s).chan = s.chan := rfl
@[simp] theorem setDir_pktSeen (d : Dir) : (setDir d s).pktSeen = s.pktSeen := rfl
@[simp] theorem setDir_tlmPending (d : Dir) : (setDir d s).tlmPending = s.tlmPending := rfl
@[simp] theorem setDir_err (d : Dir) : (setDir d s).err = s.err := rfl
@[simp] theorem setDir_txid0 (d : Dir) : (setDir d s).txid0 = s.txid0 := rfl
@[simp] theorem setDir_txid1 (d : Dir) : (setDir d s).txid1 = s.txid1 := rfl
@[simp] theorem setDir_freqOffset (d : Dir) : (setDir d s).freqOffset = s.freqOffset := rfl
@[simp] theorem setDir_pkt (d : Dir) : (setDir d s).pkt = s.pkt := rfl
@[simp] theorem setDir_ht (d : Dir) : (setDir d s).ht = s.ht := rfl
@[simp] theorem setDir_hrdata (d : Dir) : (setDir d s).hrdata = s.hrdata := rfl
@[simp] theorem setDir_radio (d : Dir) : (setDir d s).radio = s.radio := rfl
@[simp] theorem setDir_out (d : Dir) : (setDir d s).out = s.out := rfl
@[simp] theorem setDir_fnResult (d : Dir) : (setDir d s).fnResult = s.fnResult := rfl
@[simp] theorem setDir_inputs (d : Dir) : (setDir d s).inputs = s.inputs := rfl
@[simp] theorem setDir_script (d : Dir) : (setDir d s).script = s.script := rfl

/-! ### `raise` -/
@[simp] theorem raise_run (k : ErrorKind) : (raise k s).run = s.run := rfl
@[simp] theorem raise_dir (k : ErrorKind) : (raise k s).dir = s.dir := rfl
@[simp] theorem raise_connState (k : ErrorKind) : (raise k s).connState = s.connState := rfl
@[simp] theorem raise_channelIndex (k : ErrorKind) : (raise k s).channelIndex = s.channelIndex := rfl
@[simp] theorem raise_hopCounter (k : ErrorKind) : (raise k s).hopCounter = s.hopCounter := rfl
@[simp] theorem raise_rxCount (k : ErrorKind) : (raise k s).rxCount = s.rxCount := rfl
@[simp] theorem raise_linkQuality (k : ErrorKind) : (raise k s).linkQuality = s.linkQuality := rfl
@[simp] theorem raise_missedCount (k : ErrorKind) : (raise k s).missedCount = s.missedCount := rfl
@[simp] theorem raise_hopTimer (k : ErrorKind) : (raise k s).hopTimer = s.hopTimer := rfl
@[simp] theorem raise_rssi (k : ErrorKind) : (raise k s).rssi = s.rssi := rfl
@[simp] theorem raise_tlmId (k : ErrorKind) : (raise k s).tlmId = s.tlmId := rfl
@[simp] theorem raise_chan (k : ErrorKind) : (raise k s).chan = s.chan := rfl
@[simp] theorem raise_pktSeen (k : ErrorKind) : (raise k s).pktSeen = s.pktSeen := rfl
@[simp] theorem raise_tlmPending (k : ErrorKind) : (raise k s).tlmPending = s.tlmPending := rfl
@[simp] theorem raise_err (k : ErrorKind) : (raise k s).err = s.err ||| k.errMask := rfl
@[simp] theorem raise_txid0 (k : ErrorKind) : (raise k s).txid0 = s.txid0 := rfl
@[simp] theorem raise_txid1 (k : ErrorKind) : (raise k s).txid1 = s.txid1 := rfl
@[simp] theorem raise_freqOffset (k : ErrorKind) : (raise k s).freqOffset = s.freqOffset := rfl
@[simp] theorem raise_pkt (k : ErrorKind) : (raise k s).pkt = s.pkt := rfl
@[simp] theorem raise_ht (k : ErrorKind) : (raise k s).ht = s.ht := rfl
@[simp] theorem raise_hrdata (k : ErrorKind) : (raise k s).hrdata = s.hrdata := rfl
@[simp] theorem raise_radio (k : ErrorKind) : (raise k s).radio = s.radio := rfl
@[simp] theorem raise_out (k : ErrorKind) : (raise k s).out = s.out ++ k.events := rfl
@[simp] theorem raise_fnResult (k : ErrorKind) : (raise k s).fnResult = s.fnResult := rfl
@[simp] theorem raise_inputs (k : ErrorKind) : (raise k s).inputs = s.inputs := rfl
@[simp] theorem raise_script (k : ErrorKind) : (raise k s).script = s.script := rfl

/-! ### `setFnResult` -/
@[simp] theorem setFnResult_run (r : FnResult) : (setFnResult r s).run = s.run := rfl
@[simp] theorem setFnResult_dir (r : FnResult) : (setFnResult r s).dir = s.dir := rfl
@[simp] theorem setFnResult_connState (r : FnResult) : (setFnResult r s).connState = s.connState := rfl
@[simp] theorem setFnResult_channelIndex (r : FnResult) : (setFnResult r s).channelIndex = s.channelIndex := rfl
@[simp] theorem setFnResult_hopCounter (r : FnResult) : (setFnResult r s).hopCounter = s.hopCounter := rfl
@[simp] theorem setFnResult_rxCount (r : FnResult) : (setFnResult r s).rxCount = s.rxCount := rfl
@[simp] theorem setFnResult_linkQuality (r : FnResult) : (setFnResult r s).linkQuality = s.linkQuality := rfl
@[simp] theorem setFnResult_missedCount (r : FnResult) : (setFnResult r s).missedCount = s.missedCount := rfl
@[simp] theorem setFnResult_hopTimer (r : FnResult) : (setFnResult r s).hopTimer = s.hopTimer := rfl
@[simp] theorem setFnResult_rssi (r : FnResult) : (setFnResult r s).rssi = s.rssi := rfl
@[simp] theorem setFnResult_tlmId (r : FnResult) : (setFnResult r s).tlmId = s.tlmId := rfl
@[simp] theorem setFnResult_chan (r : FnResult) : (setFnResult r s).chan = s.chan := rfl
@[simp] theorem setFnResult_pktSeen (r : FnResult) : (setFnResult r s).pktSeen = s.pktSeen := rfl
@[simp] theorem setFnResult_tlmPending (r : FnResult) : (setFnResult r s).tlmPending = s.tlmPending := rfl
@[simp] theorem setFnResult_err (r : FnResult) : (setFnResult r s).err = s.err := rfl
@[simp] theorem setFnResult_txid0 (r : FnResult) : (setFnResult r s).txid0 = s.txid0 := rfl
@[simp] theorem setFnResult_txid1 (r : FnResult) : (setFnResult r s).txid1 = s.txid1 := rfl
@[simp] theorem setFnResult_freqOffset (r : FnResult) : (setFnResult r s).freqOffset = s.freqOffset := rfl
@[simp] theorem setFnResult_pkt (r : FnResult) : (setFnResult r s).pkt = s.pkt := rfl
@[simp] theorem setFnResult_ht (r : FnResult) : (setFnResult r s).ht = s.ht := rfl
@[simp] theorem setFnResult_hrdata (r : FnResult) : (setFnResult r s).hrdata = s.hrdata := rfl
@[simp] theorem setFnResult_radio (r : FnResult) : (setFnResult r s).radio = s.radio := rfl
@[simp] theorem setFnResult_out (r : FnResult) : (setFnResult r s).out = s.out := rfl
@[simp] theorem setFnResult_fnResult (r : FnResult) : (setFnResult r s).fnResult = some r := rfl
@[simp] theorem setFnResult_inputs (r : FnResult) : (setFnResult r s).inputs = s.inputs := rfl
@[simp] theorem setFnResult_script (r : FnResult) : (setFnResult r s).script = s.script := rfl

/-! ### `beginOp` -/
@[simp] theorem beginOp_run : (beginOp s).run = s.run := rfl
@[simp] theorem beginOp_dir : (beginOp s).dir = s.dir := rfl
@[simp] theorem beginOp_connState : (beginOp s).connState = s.connState := rfl
@[simp] theorem beginOp_channelIndex : (beginOp s).channelIndex = s.channelIndex := rfl
@[simp] theorem beginOp_hopCounter : (beginOp s).hopCounter = s.hopCounter := rfl
@[simp] theorem beginOp_rxCount : (beginOp s).rxCount = s.rxCount := rfl
@[simp] theorem beginOp_linkQuality : (beginOp s).linkQuality = s.linkQuality := rfl
@[simp] theorem beginOp_missedCount : (beginOp s).missedCount = s.missedCount := rfl
@[simp] theorem beginOp_hopTimer : (beginOp s).hopTimer = s.hopTimer := rfl
@[simp] theorem beginOp_rssi : (beginOp s).rssi = s.rssi := rfl
@[simp] theorem beginOp_tlmId : (beginOp s).tlmId = s.tlmId := rfl
@[simp] theorem beginOp_chan : (beginOp s).chan = s.chan := rfl
@[simp] theorem beginOp_pktSeen : (beginOp s).pktSeen = s.pktSeen := rfl
@[simp] theorem beginOp_tlmPending : (beginOp s).tlmPending = s.tlmPending := rfl
@[simp] theorem beginOp_err : (beginOp s).err = s.err := rfl
@[simp] theorem beginOp_txid0 : (beginOp s).txid0 = s.txid0 := rfl
@[simp] theorem beginOp_txid1 : (beginOp s).txid1 = s.txid1 := rfl
@[simp] theorem beginOp_freqOffset : (beginOp s).freqOffset = s.freqOffset := rfl
@[simp] theorem beginOp_pkt : (beginOp s).pkt = s.pkt := rfl
@[simp] theorem beginOp_ht : (beginOp s).ht = s.ht := rfl
@[simp] theorem beginOp_hrdata : (beginOp s).hrdata = s.hrdata := rfl
@[simp] theorem beginOp_radio : (beginOp s).radio = [] := rfl
@[simp] theorem beginOp_out : (beginOp s).out = [] := rfl
@[simp] theorem beginOp_fnResult : (beginOp s).fnResult = none := rfl
@[simp] theorem beginOp_inputs : (beginOp s).inputs = s.inputs := rfl
@[simp] theorem beginOp_script : (beginOp s).script = s.script := rfl

end Sys2Proof.Machine
end

