-- ==== Sys2Proof/Laws/Ops.lean ====
section
/-! SUPPORT. What each shared operation can do, said once: the state it answers as one record update, or its cases. -/

namespace Sys2Proof.Machine

variable (s : State)

/-! ### Guards, the radio and the errors -/

@[simp] theorem whenRunning_of_run {f : State → State} (h : s.run = true) : whenRunning f s = f s := by simp [whenRunning, h]

@[simp] theorem whenRunning_of_halted {f : State → State} (h : s.run = false) : whenRunning f s = s := by
  simp [whenRunning, h, ignoreEvent]

@[simp] theorem ignoreEvent_eq : ignoreEvent s = s := rfl

theorem armReceive_eq :
    armReceive s = { s with radio := s.radio ++ [.armRx s.freqOffset], dir := .receivingInto } := rfl

/-- `raise`, kind by kind (60_exceptions.md R240). -/
theorem raise_eq (k : ErrorKind) : raise k s = { s with err := s.err ||| k.errMask, out := s.out ++ k.events } := rfl

/-- `OVF_RECOVER` re-arms unless the block is idle. -/
theorem ovfRecover_eq :
    ovfRecover s =
      if s.dir = .idle then { s with radio := s.radio ++ [.setIdle] }
      else { s with radio := s.radio ++ [.setIdle, .armRx s.freqOffset], dir := .receivingInto } := by
  unfold ovfRecover
  split_ifs <;> simp [armReceive_eq, emitRadio]

/-! ### Loss detector -/

/-- `MISS_ACCOUNT` clears `pktSeen`, and counts and reports a miss when it was clear. -/
theorem missAccount_eq :
    missAccount s =
      if s.pktSeen then { s with pktSeen := false }
      else { s with pktSeen := false, missedCount := sat16 (s.missedCount.toNat + 1), err := s.err ||| 0b000100,
                    out := s.out ++ [.frameLost] } := by
  unfold missAccount
  split_ifs <;> simp [setPktSeen, raise, ErrorKind.errMask, ErrorKind.events]

theorem sat16_toNat (v : Nat) : (sat16 v).toNat = min v 65535 := by
  simp only [sat16, BitVec.toNat_ofNat]; omega

/-- `LOCK_ON_FRAME` without re-phasing. -/
theorem lockOnFrame_eq {p : Params} (hp : p.rephaseTicks = none) :
    lockOnFrame p s =
      if s.connState = .locked then s
      else { s with connState := .locked, hopTimer := 9, out := s.out ++ [.connRestored] } := by
  unfold lockOnFrame rephase
  rw [hp]
  split_ifs <;> rfl

/-- The four cases of `WINDOW_EVAL`. -/
theorem windowEval_eq :
    windowEval s =
      if s.rxCount = 0 then
        if s.connState = .lost then { s with linkQuality := 0, rxCount := 0 }
        else { s with connState := .lost, err := s.err ||| 0b100000, out := s.out ++ [.connLost],
                      linkQuality := 0, rxCount := 0 }
      else
        if s.connState = .locked then { s with linkQuality := s.rxCount.setWidth 8, rxCount := 0 }
        else { s with connState := .locked, out := s.out ++ [.connRestored],
                      linkQuality := s.rxCount.setWidth 8, rxCount := 0 } := by
  unfold windowEval windowTransition
  split_ifs <;> simp_all [raise, emitOut, ErrorKind.errMask, ErrorKind.events]

/-! ### Hop scheduler -/

/-- The index that `ADVANCE` reaches lies in every legal table. -/
theorem nextIndex_toNat {p : Params} (hp : p.legal = true) (b : Bool) (i : BitVec 6) :
    (nextIndex p b i).toNat = (i.toNat + (1 + if b then p.tlmExtraSteps else 0)) % p.nHop := by
  have h : 1 ≤ p.nHop ∧ p.nHop ≤ 64 := by
    simp only [Params.legal, Bool.and_eq_true, decide_eq_true_eq] at hp
    exact hp.1.1
  have := Nat.mod_lt (i.toNat + (1 + if b then p.tlmExtraSteps else 0)) (show 0 < p.nHop by omega)
  rw [nextIndex, BitVec.toNat_ofNat, Nat.mod_eq_of_lt (by omega)]

/-- `HOP` is its ten lines in order. -/
theorem hop_eq (p : Params) :
    hop p s = hopArm p (hopTune (hopReload (hopCount (missAccount (advance p (hopTimeout s)))))) := rfl

theorem hopTimeout_eq :
    hopTimeout s =
      if s.dir = .transmittingFrom then { s with err := s.err ||| 0b010000, out := s.out ++ [.log 5] } else s := rfl

theorem hopTune_eq :
    hopTune s = { s with radio := s.radio ++ [.setIdle, tuneCmd s s.channelIndex.toNat] } := by
  simp [hopTune, emitRadio]

/-- `TICK` of a running block either counts down or hops. -/
theorem tick_eq (p : Params) :
    tick p s = if s.hopTimer = 1 then hop p { s with hopTimer := 0 } else { s with hopTimer := s.hopTimer - 1 } := by
  by_cases h : s.hopTimer = 1
  · simp [tick, h]
  · have h' : ¬ s.hopTimer - 1 = 0 := by rwa [sub_eq_zero]
    rw [if_neg h]
    exact if_neg h'

/-! ### Telemetry -/

theorem tlmLatch_eq :
    tlmLatch s =
      if (pktRead s 3).toNat % 4 = 2 then { s with tlmPending := true, tlmId := pktRead s 4 } else s := rfl

/-- `TLM_OPEN` without hub telemetry. -/
theorem tlmOpen_eq {p : Params} (hp : p.hubTlmEn = false) :
    tlmOpen p s =
      { s with pkt := Memory.writeAll pktFill s.pkt 0 (tlmReply p s).1.toList, radio := s.radio ++ [.armTx],
               dir := .transmittingFrom, tlmPending := false } := by
  simp [tlmOpen, hubAckIf, hp, setTlmPending, setDir, emitRadio, storeFrame]

/-- `TLM_OPEN` writes the reply over the whole of `PKT`, under every parameter setting. -/
theorem tlmOpen_pkt (p : Params) : (tlmOpen p s).pkt = (storeFrame (tlmReply p s).1 s).pkt := by
  simp only [tlmOpen, hubAckIf, setTlmPending_pkt, setDir_pkt, emitRadio_pkt]
  by_cases h : p.hubTlmEn = true
  · rw [if_pos h, emitOut_pkt]
  · rw [if_neg h]

/-- `TLM_OPEN` announces the reply's stuffing length when hub telemetry is on, and nothing otherwise. -/
theorem tlmOpen_out (p : Params) :
    (tlmOpen p s).out = if p.hubTlmEn then s.out ++ [.hubAck (tlmReply p s).2] else s.out := by
  simp only [tlmOpen, hubAckIf, setTlmPending_out, setDir_out, emitRadio_out]
  by_cases h : p.hubTlmEn = true
  · rw [if_pos h, if_pos h, emitOut_out, storeFrame_out]
  · rw [if_neg h, if_neg h, storeFrame_out]

/-- This hardware's reply: bytes 6 to 19 are zero (41_framer_validator.md R147). -/
theorem encodeTelemetry_params (tid a0 a1 rs id0 id1 : Byte) (nIn : BitVec 4) (d : HubData) :
    encodeTelemetry Config.params tid a0 a1 rs id0 id1 nIn d =
      (#v[0x11, id0, id1, a0, a1, rs, 0, 0, 0, 0, 0, 0, 0, 0, 0, 0, 0, 0, 0, 0], 0) := rfl

/-! ### System operations -/

/-- `START` of a halted block. -/
theorem startBlock_eq :
    startBlock s =
      { s with run := true, connState := .syncing, channelIndex := 0, hopCounter := 0, rxCount := 0, linkQuality := 0,
               missedCount := 0, hopTimer := 500, pktSeen := false, tlmPending := false, err := 0,
               pkt := Memory.write pktFill s.pkt 19 0, dir := .receivingInto,
               radio := s.radio ++ [.setIdle, .tune (htRead s 0) (htRead s 1) (htRead s 2) (htRead s 3),
                                    .armRx s.freqOffset] } := by
  simp [startBlock, startRegisters, clearFlags, armReceive_eq, emitRadio, pktWrite, tuneCmd, htRead, htKey, statusPos,
    Config.hopResyncTicks]

/-- `STOP` of a running block. -/
theorem stopBlock_eq :
    stopBlock s = { s with radio := s.radio ++ [.setIdle], dir := .idle, run := false } := rfl

end Sys2Proof.Machine
end

