-- ==== Sys2Proof/Laws/Exec.lean ====
section
/-! SUPPORT. `exec`, instruction by instruction, as the state transformer behind it, so that no proof unfolds the dispatch. -/

namespace Sys2Proof.Machine

variable (s : State)

@[simp] theorem exec_reset : exec .reset s = .next (resetBlock s) := rfl
@[simp] theorem exec_ovfRx : exec .ovfRx s = .next (whenRunning ovfRx s) := rfl
@[simp] theorem exec_ovfTx : exec .ovfTx s = .next (whenRunning ovfTx s) := rfl
@[simp] theorem exec_ovfBoth : exec .ovfBoth s = .next (whenRunning ovfBoth s) := rfl
@[simp] theorem exec_rxDone : exec .rxDone s = .next (rxDone Config.params s) := rfl
@[simp] theorem exec_txDone :
    exec .txDone s = .next (if s.run = true ∧ s.dir = .transmittingFrom then armReceive s else ignoreEvent s) := rfl
@[simp] theorem exec_tick : exec .tick s = .next (whenRunning (tick Config.params) s) := rfl
@[simp] theorem exec_regRd (n : BitVec 6) : exec (.regRd n) s = .next { s with hrdata := regValue s n.toNat } := rfl
@[simp] theorem exec_regWr (n : BitVec 6) (d : BitVec 16) : exec (.regWr n d) s = .next (regWrite n d s) := rfl
@[simp] theorem exec_htWr (i : BitVec 6) (j : BitVec 2) (d : BitVec 16) :
    exec (.htWr i j d) s = .next (htTableWrite Config.params i j d s) := rfl
@[simp] theorem exec_start : exec .start s = .next (if s.run then ignoreEvent s else startBlock s) := rfl
@[simp] theorem exec_stop : exec .stop s = .next (whenRunning stopBlock s) := rfl
@[simp] theorem exec_validate (f : Frame) (id0 id1 : Byte) :
    exec (.validate f id0 id1) s = .next (setFnResult (.valid (validateFrame Config.params f id0 id1)) s) := rfl
@[simp] theorem exec_decodeCh (f : Frame) :
    exec (.decodeCh f) s = .next (setFnResult (.channels (decodeChannels Config.params f)) s) := rfl
@[simp] theorem exec_decodeRssi (raw : Byte) :
    exec (.decodeRssi raw) s = .next (setFnResult (.rssi (decodeRssiByte raw)) s) := rfl
@[simp] theorem exec_encodeTlm (tid a0 a1 rs id0 id1 : Byte) (nIn : BitVec 4) (d : HubData) :
    exec (.encodeTlm tid a0 a1 rs id0 id1 nIn d) s =
      .next (setFnResult (.telemetry (encodeTelemetry Config.params tid a0 a1 rs id0 id1 nIn d).1
        (encodeTelemetry Config.params tid a0 a1 rs id0 id1 nIn d).2) s) := rfl
@[simp] theorem exec_hubStuff (sid : Byte) (val : BitVec 16) :
    exec (.hubStuff sid val) s =
      .next (setFnResult (.stuffed (hubStuffBytes sid val) (BitVec.ofNat 3 (hubStuffBytes sid val).length)) s) := rfl
@[simp] theorem exec_hop : exec .hop s = .next (whenRunning (hop Config.params) s) := rfl
@[simp] theorem exec_txTimeout : exec .txTimeout s = .next (whenRunning txTimeout s) := rfl
@[simp] theorem exec_advance : exec .advance s = .next (whenRunning (advance Config.params) s) := rfl
@[simp] theorem exec_missAccount : exec .missAccount s = .next (whenRunning missAccount s) := rfl
@[simp] theorem exec_windowEval : exec .windowEval s = .next (whenRunning windowEval s) := rfl
@[simp] theorem exec_tlmOpen : exec .tlmOpen s = .next (whenRunning (tlmOpen Config.params) s) := rfl
@[simp] theorem exec_accept : exec .accept s = .next (whenRunning (accept Config.params) s) := rfl
@[simp] theorem exec_reject : exec .reject s = .next (whenRunning reject s) := rfl
@[simp] theorem exec_lockOnFrame : exec .lockOnFrame s = .next (whenRunning (lockOnFrame Config.params) s) := rfl
@[simp] theorem exec_tlmLatch : exec .tlmLatch s = .next (whenRunning tlmLatch s) := rfl
@[simp] theorem exec_ovfRecover : exec .ovfRecover s = .next (whenRunning ovfRecover s) := rfl
@[simp] theorem exec_nopEvent : exec .nopEvent s = .next (ignoreEvent s) := rfl

end Sys2Proof.Machine
end

