-- ==== Sys2Proof/Laws/Memory.lean ====
section
/-! SUPPORT. Reading after writing, and the canonical form of the memories (20_memory.md R60, R61; log entry 19). -/

namespace Sys2Proof.Machine

@[simp] theorem find?_nil (a : Nat) : Memory.find? [] a = none := rfl

/-- Reading after listing a byte. -/
theorem find?_insert (m : Memory) (a : Nat) (v : Byte) (b : Nat) :
    Memory.find? (Memory.insert m a v) b = if b = a then some v else Memory.find? m b := by
  induction m with
  | nil => simp [Memory.insert, Memory.find?]
  | cons c m ih =>
    obtain ⟨c, w⟩ := c
    simp only [Memory.insert]
    split_ifs with h1 h2 <;> simp only [Memory.find?] <;> (try rw [ih]) <;> split_ifs <;> simp_all

/-- A memory whose addresses are at least `lo` lists nothing below `lo`. -/
theorem find?_of_lt {fill : Option Byte} {size lo : Nat} {m : Memory} (h : Memory.wfFrom fill size lo m = true)
    {b : Nat} (hb : b < lo) : Memory.find? m b = none := by
  induction m generalizing lo with
  | nil => rfl
  | cons c m ih =>
    obtain ⟨c, w⟩ := c
    simp only [Memory.wfFrom, Bool.and_eq_true, decide_eq_true_eq] at h
    simp only [Memory.find?]
    rw [if_neg (by omega)]
    exact ih h.2 (by omega)

/-- Reading after unlisting a byte. -/
theorem find?_erase (m : Memory) (a b : Nat) :
    Memory.find? (Memory.erase m a) b = if b = a then none else Memory.find? m b := by
  induction m with
  | nil => simp [Memory.erase]
  | cons c m ih =>
    obtain ⟨c, w⟩ := c
    simp only [Memory.erase]
    split_ifs with h1 h2 <;> simp only [Memory.find?, ih] <;> split_ifs <;> simp_all

/-- Dropping the bound on the first address. -/
theorem wfFrom_mono {fill : Option Byte} {size lo lo' : Nat} {m : Memory} (hle : lo' ≤ lo)
    (h : Memory.wfFrom fill size lo m = true) : Memory.wfFrom fill size lo' m = true := by
  cases m with
  | nil => rfl
  | cons c m =>
    obtain ⟨c, w⟩ := c
    simp only [Memory.wfFrom, Bool.and_eq_true, decide_eq_true_eq] at h ⊢
    exact ⟨⟨by omega, h.1.2.1, h.1.2.2⟩, h.2⟩

theorem wfFrom_insert {fill : Option Byte} {size lo : Nat} {m : Memory} {a : Nat} {v : Byte}
    (h : Memory.wfFrom fill size lo m = true) (hlo : lo ≤ a) (ha : a < size) (hv : fill ≠ some v) :
    Memory.wfFrom fill size lo (Memory.insert m a v) = true := by
  induction m generalizing lo with
  | nil => simp [Memory.insert, Memory.wfFrom, hlo, ha, hv]
  | cons c m ih =>
    obtain ⟨c, w⟩ := c
    simp only [Memory.wfFrom, Bool.and_eq_true, decide_eq_true_eq] at h
    simp only [Memory.insert]
    split_ifs with h1 h2
    · simp only [Memory.wfFrom, Bool.and_eq_true, decide_eq_true_eq]
      exact ⟨⟨hlo, ha, hv⟩, ⟨by omega, h.1.2.1, h.1.2.2⟩, h.2⟩
    · subst h2
      simp only [Memory.wfFrom, Bool.and_eq_true, decide_eq_true_eq]
      exact ⟨⟨hlo, ha, hv⟩, h.2⟩
    · simp only [Memory.wfFrom, Bool.and_eq_true, decide_eq_true_eq]
      exact ⟨h.1, ih h.2 (by omega)⟩

theorem wfFrom_erase {fill : Option Byte} {size lo : Nat} {m : Memory} {a : Nat}
    (h : Memory.wfFrom fill size lo m = true) : Memory.wfFrom fill size lo (Memory.erase m a) = true := by
  induction m generalizing lo with
  | nil => rfl
  | cons c m ih =>
    obtain ⟨c, w⟩ := c
    simp only [Memory.wfFrom, Bool.and_eq_true, decide_eq_true_eq] at h
    simp only [Memory.erase]
    split_ifs with h1
    · exact wfFrom_mono (by omega) (ih h.2)
    · simp only [Memory.wfFrom, Bool.and_eq_true, decide_eq_true_eq]
      exact ⟨h.1, ih h.2⟩

/-- A write keeps the canonical form. -/
theorem wf_write {fill : Option Byte} {size : Nat} {m : Memory} {a : Nat} {v : Byte}
    (h : Memory.wf fill size m = true) (ha : a < size) : Memory.wf fill size (Memory.write fill m a v) = true := by
  unfold Memory.write
  split_ifs with hv
  · exact wfFrom_erase h
  · exact wfFrom_insert h (Nat.zero_le _) ha hv

/-- A run of writes keeps the canonical form. -/
theorem wf_writeAll {fill : Option Byte} {size : Nat} {vs : List Byte} {m : Memory} {a : Nat}
    (h : Memory.wf fill size m = true) (ha : a + vs.length ≤ size) :
    Memory.wf fill size (Memory.writeAll fill m a vs) = true := by
  induction vs generalizing m a with
  | nil => exact h
  | cons v vs ih =>
    simp only [List.length_cons] at ha
    exact ih (wf_write h (by omega)) (by omega)

/-- The value an address reads as after a write: `d` stands for what the address reads as when it is not listed. -/
theorem getD_find?_write {fill : Option Byte} (m : Memory) (a : Nat) (v d : Byte)
    (hd : fill = none ∨ fill = some d) (b : Nat) :
    (Memory.find? (Memory.write fill m a v) b).getD d = if b = a then v else (Memory.find? m b).getD d := by
  unfold Memory.write
  by_cases hv : fill = some v
  · have hdv : d = v := by
      rcases hd with hd | hd <;> rw [hd] at hv <;> simp_all
    rw [if_pos hv, find?_erase]
    by_cases hb : b = a <;> simp [hb, hdv]
  · rw [if_neg hv, find?_insert]
    by_cases hb : b = a <;> simp [hb]

/-- Reading after a run of writes. -/
theorem getD_find?_writeAll {fill : Option Byte} (vs : List Byte) (m : Memory) (a : Nat) (d : Byte)
    (hd : fill = none ∨ fill = some d) (b : Nat) :
    (Memory.find? (Memory.writeAll fill m a vs) b).getD d =
      if a ≤ b ∧ b < a + vs.length then vs.getD (b - a) d else (Memory.find? m b).getD d := by
  induction vs generalizing m a with
  | nil => rw [if_neg (by simp only [List.length_nil]; omega)]; rfl
  | cons v vs ih =>
    simp only [List.length_cons, Memory.writeAll]
    rw [ih, getD_find?_write m a v d hd]
    by_cases h1 : b = a
    · subst h1; rw [if_neg (by omega), if_pos rfl, if_pos (by omega)]; simp
    · by_cases h2 : a + 1 ≤ b ∧ b < a + 1 + vs.length
      · rw [if_pos h2, if_pos (by omega), show b - a = (b - (a + 1)) + 1 by omega]; rfl
      · rw [if_neg h2, if_neg h1, if_neg (by omega)]

/-- Canonical memories that read alike are equal data. -/
theorem wfFrom_ext {fill : Option Byte} {size lo : Nat} {m m' : Memory}
    (h : Memory.wfFrom fill size lo m = true) (h' : Memory.wfFrom fill size lo m' = true)
    (heq : ∀ a, Memory.find? m a = Memory.find? m' a) : m = m' := by
  induction m generalizing lo m' with
  | nil =>
    cases m' with
    | nil => rfl
    | cons c m' => have := heq c.1; simp [Memory.find?] at this
  | cons c m ih =>
    obtain ⟨c, w⟩ := c
    cases m' with
    | nil => have := heq c; simp [Memory.find?] at this
    | cons c' m' =>
      obtain ⟨c', w'⟩ := c'
      simp only [Memory.wfFrom, Bool.and_eq_true, decide_eq_true_eq] at h h'
      have hcc : c = c' := by
        by_contra hne
        rcases Nat.lt_or_gt_of_ne hne with hlt | hgt
        · have := heq c
          rw [find?_of_lt (lo := c + 1) (m := (c', w') :: m')
            (by simp only [Memory.wfFrom, Bool.and_eq_true, decide_eq_true_eq]
                exact ⟨⟨by omega, h'.1.2⟩, h'.2⟩) (by omega)] at this
          simp [Memory.find?] at this
        · have := heq c'
          rw [find?_of_lt (lo := c' + 1) (m := (c, w) :: m)
            (by simp only [Memory.wfFrom, Bool.and_eq_true, decide_eq_true_eq]
                exact ⟨⟨by omega, h.1.2⟩, h.2⟩) (by omega)] at this
          simp [Memory.find?] at this
      subst hcc
      have hw := heq c
      simp only [Memory.find?, if_true] at hw
      have hmm : m = m' := by
        refine ih h.2 h'.2 fun a => ?_
        have := heq a
        simp only [Memory.find?] at this
        by_cases ha : a = c
        · subst ha; rw [find?_of_lt h.2 (by omega), find?_of_lt h'.2 (by omega)]
        · simpa [ha] using this
      simp_all

/-- Every operation on `PKT` keeps its canonical form. -/
theorem pktWrite_wf {s : State} {i : Nat} {v : Byte} (h : Memory.wf pktFill 20 s.pkt = true) (hi : i < 20) :
    Memory.wf pktFill 20 (pktWrite i v s).pkt = true := wf_write h hi

theorem storeFrame_wf {s : State} {f : Frame} (h : Memory.wf pktFill 20 s.pkt = true) :
    Memory.wf pktFill 20 (storeFrame f s).pkt = true := wf_writeAll h (by simp)

/-- Every operation on `HT` keeps its canonical form. -/
theorem htWrite_wf {s : State} {size a : Nat} {v : Byte} (h : Memory.wf htFill size s.ht = true) (ha : a < size) :
    Memory.wf htFill size (htWrite a v s).ht = true := wf_write h ha

/-- `PKT` is read from the field `pkt` alone. -/
theorem pktRead_congr {s t : State} (h : s.pkt = t.pkt) (a : Nat) : pktRead s a = pktRead t a := by
  rw [pktRead, pktRead, h]

theorem pktFrame_congr {s t : State} (h : s.pkt = t.pkt) : pktFrame s = pktFrame t := by
  simp only [pktFrame, pktRead_congr h]

/-- `HT` is read from the field `ht` alone. -/
theorem htRead_congr {s t : State} (h : s.ht = t.ht) (a : Nat) : htRead s a = htRead t a := by rw [htRead, htRead, h]

/-- `PKT` read after `PKT[i] <- v`. -/
theorem pktRead_pktWrite (s : State) (i : Nat) (v : Byte) (j : Nat) :
    pktRead (pktWrite i v s) j = if j = i then v else pktRead s j :=
  getD_find?_write s.pkt i v 0 (Or.inr rfl) j

/-- `PKT` read after a whole frame is written. -/
theorem pktRead_storeFrame (s : State) (f : Frame) (j : Nat) :
    pktRead (storeFrame f s) j = if hj : j < 20 then f[j] else pktRead s j := by
  have := getD_find?_writeAll (fill := pktFill) f.toList s.pkt 0 0 (Or.inr rfl) j
  simp only [pktRead, storeFrame, this]
  by_cases hj : j < 20 <;> simp [hj]

/-- The buffer holds the frame last written to it. -/
theorem pktFrame_storeFrame (s : State) (f : Frame) : pktFrame (storeFrame f s) = f := by
  ext i hi
  simp [pktFrame, pktRead_storeFrame]

/-- `HT` read after one byte is written. -/
theorem htRead_htWrite (s : State) (a : Nat) (v : Byte) (b : Nat) :
    htRead (htWrite a v s) b = if b = a then v else htRead s b :=
  getD_find?_write s.ht a v (Config.htPowerUp b) (Or.inl rfl) b

/-- The buffer read as a frame, byte by byte. -/
theorem getElem_pktFrame (s : State) (i : Nat) (hi : i < 20) : (pktFrame s)[i] = pktRead s i := by
  simp [pktFrame]

end Sys2Proof.Machine
end

