-- ==== Sys2Proof/Laws/PerInstr.lean ====
section
/-! SUPPORT. Statements about every operation as syntax, one lemma per constructor. -/

namespace Sys2Proof.Laws.EncodesOneOperation

/-- The sample that encodes the operation carries exactly one operation (30_encoding.md R89). -/
def Statement (i : Instr) : Prop := ∀ smp : Sample, encode i = some smp → (sampleOps smp).length = 1

/-- A host word that decodes is one operation. -/
theorem of_host {hw : BitVec 26} {i : Instr} (h : decodeHost hw = .ok i) : (sampleOps { hw := hw }).length = 1 := by
  simp [sampleOps_of_rst_false, h, eventOps, evOvf, evRxDone, evTxDone, evTick]

/-- A function select that decodes is one operation. -/
theorem of_fn {sel : BitVec 3} {a : FnArgs} {i : Instr} (h : decodeFn sel a = .ok i) :
    (sampleOps { fnSel := sel, fnArgs := a }).length = 1 := by
  simp [sampleOps_of_rst_false, h, eventOps, evOvf, evRxDone, evTxDone, evTick]

theorem reset : Statement .reset := by
  intro smp h; cases h; rfl

theorem ovfRx : Statement .ovfRx := by
  intro smp h; cases h; rfl

theorem ovfTx : Statement .ovfTx := by
  intro smp h; cases h; rfl

theorem ovfBoth : Statement .ovfBoth := by
  intro smp h; cases h; rfl

theorem rxDone : Statement .rxDone := by
  intro smp h; cases h; rfl

theorem txDone : Statement .txDone := by
  intro smp h; cases h; rfl

theorem tick : Statement .tick := by
  intro smp h; cases h; rfl

theorem regRd (n : BitVec 6) : Statement (.regRd n) := by
  intro smp h
  cases h
  exact of_host (i := (.regRd n)) (by simp [decodeHost])

theorem regWr (n : BitVec 6) (d : BitVec 16) : Statement (.regWr n d) := by
  intro smp h
  cases h
  by_cases hn : n = 0#6
  · subst hn
    cases hd : d[0]
    · exact of_host (i := .stop) (by simp [decodeHost, hd])
    · exact of_host (i := .start) (by simp [decodeHost, hd])
  · exact of_host (i := .regWr n d) (by simp [decodeHost]; tauto)

theorem htWr (i : BitVec 6) (j : BitVec 2) (d : BitVec 16) : Statement (.htWr i j d) := by
  intro smp h
  cases h
  exact of_host (i := (.htWr i j d)) (by simp [decodeHost])

theorem start : Statement .start := by
  intro smp h
  cases h
  exact of_host (i := .start) (by simp [decodeHost])

theorem stop : Statement .stop := by
  intro smp h
  cases h
  exact of_host (i := .stop) (by simp [decodeHost])

theorem validate (f : Frame) (id0 id1 : Byte) : Statement (.validate f id0 id1) := by
  intro smp h; cases h; exact of_fn rfl

theorem decodeCh (f : Frame) : Statement (.decodeCh f) := by
  intro smp h; cases h; exact of_fn rfl

theorem decodeRssi (raw : Byte) : Statement (.decodeRssi raw) := by
  intro smp h; cases h; exact of_fn rfl

theorem encodeTlm (tid a0 a1 rs id0 id1 : Byte) (nIn : BitVec 4) (d : HubData) : Statement (.encodeTlm tid a0 a1 rs id0 id1 nIn d) := by
  intro smp h; cases h; exact of_fn rfl

theorem hubStuff (sid : Byte) (val : BitVec 16) : Statement (.hubStuff sid val) := by
  intro smp h; cases h; exact of_fn rfl

theorem hop : Statement .hop := by
  intro smp h; cases h

theorem txTimeout : Statement .txTimeout := by
  intro smp h; cases h

theorem advance : Statement .advance := by
  intro smp h; cases h

theorem missAccount : Statement .missAccount := by
  intro smp h; cases h

theorem windowEval : Statement .windowEval := by
  intro smp h; cases h

theorem tlmOpen : Statement .tlmOpen := by
  intro smp h; cases h

theorem accept : Statement .accept := by
  intro smp h; cases h

theorem reject : Statement .reject := by
  intro smp h; cases h

theorem lockOnFrame : Statement .lockOnFrame := by
  intro smp h; cases h

theorem tlmLatch : Statement .tlmLatch := by
  intro smp h; cases h

theorem ovfRecover : Statement .ovfRecover := by
  intro smp h; cases h

theorem nopEvent : Statement .nopEvent := by
  intro smp h; cases h

end Sys2Proof.Laws.EncodesOneOperation
end

