-- ==== Sys2Proof/Laws/Whole.lean ====
section
/-! SUPPORT. The composed operations of this hardware, each said once as one record update whose fields carry the cases:
`HOP` (40_hop_scheduler.md R123) by its stages, and `ACCEPT` (41_framer_validator.md R144). Later proofs cite these. -/

namespace Sys2Proof.Machine

variable (s : State)

/-! ### The stages of `HOP` -/

theorem hopTimeout_rec :
    hopTimeout s =
      { s with err := s.err ||| (if s.dir = .transmittingFrom then 0b010000 else 0),
               out := s.out ++ (if s.dir = .transmittingFrom then [.log 5] else []) } := by
  rw [hopTimeout_eq]
  by_cases h : s.dir = .transmittingFrom <;> simp only [h, if_true, if_false]
  simp

theorem missAccount_rec :
    missAccount s =
      { s with pktSeen := false,
               missedCount := if s.pktSeen then s.missedCount else sat16 (s.missedCount.toNat + 1),
               err := s.err ||| (if s.pktSeen then 0 else 0b000100),
               out := s.out ++ (if s.pktSeen then [] else [.frameLost]) } := by
  rw [missAccount_eq]
  cases h : s.pktSeen <;> simp

/-- The state that `WINDOW_EVAL` leaves `connState` in. -/
theorem windowEval_rec :
    windowEval s =
      { s with connState := if s.rxCount = 0 then .lost else .locked,
               err := s.err ||| (if s.rxCount = 0 ∧ s.connState ≠ .lost then 0b100000 else 0),
               out := s.out ++ (if s.rxCount = 0 ∧ s.connState ≠ .lost then [.connLost] else []) ++
                 (if s.rxCount ≠ 0 ∧ s.connState ≠ .locked then [.connRestored] else []),
               linkQuality := s.rxCount.setWidth 8, rxCount := 0 } := by
  rw [windowEval_eq]
  by_cases h1 : s.rxCount = 0 <;> by_cases h2 : s.connState = .lost <;> by_cases h3 : s.connState = .locked <;>
    simp_all

/-- A hop event closes its window when the count reaches 100 (40_hop_scheduler.md R125). -/
theorem hopCount_rec :
    hopCount s =
      { s with hopCounter := if s.hopCounter + 1 = 100 then 0 else s.hopCounter + 1,
               connState := if s.hopCounter + 1 = 100 then (if s.rxCount = 0 then .lost else .locked) else s.connState,
               err := s.err ||| (if s.hopCounter + 1 = 100 ∧ s.rxCount = 0 ∧ s.connState ≠ .lost then 0b100000 else 0),
               out := s.out ++
                 (if s.hopCounter + 1 = 100 ∧ s.rxCount = 0 ∧ s.connState ≠ .lost then [.connLost] else []) ++
                 (if s.hopCounter + 1 = 100 ∧ s.rxCount ≠ 0 ∧ s.connState ≠ .locked then [.connRestored] else []),
               linkQuality := if s.hopCounter + 1 = 100 then s.rxCount.setWidth 8 else s.linkQuality,
               rxCount := if s.hopCounter + 1 = 100 then 0 else s.rxCount } := by
  unfold hopCount Config.windowHops
  by_cases h : s.hopCounter + 1 = 100
  · simp only [h, if_true, windowEval_rec, true_and]
  · simp only [h, if_false, false_and, List.append_nil]
    simp

theorem hopArm_rec :
    hopArm Config.params s =
      { s with radio := s.radio ++ [if s.tlmPending then .armTx else .armRx s.freqOffset],
               dir := if s.tlmPending then .transmittingFrom else .receivingInto,
               tlmPending := false,
               pkt := if s.tlmPending then Memory.writeAll pktFill s.pkt 0 (tlmReply Config.params s).1.toList else s.pkt } := by
  unfold hopArm
  cases h : s.tlmPending
  · cases s; simp_all [armReceive_eq]
  · simp only [if_true, tlmOpen_eq _ Config.params_hubTlmEn]

/-- `OVF_RECOVER` with the two cases in its fields (60_exceptions.md R249). -/
theorem ovfRecover_rec :
    ovfRecover s =
      { s with radio := s.radio ++ (if s.dir = .idle then [.setIdle] else [.setIdle, .armRx s.freqOffset]),
               dir := if s.dir = .idle then .idle else .receivingInto } := by
  rw [ovfRecover_eq]
  by_cases h : s.dir = .idle <;> simp_all

/-- `REJECT` (41_framer_validator.md R145). -/
theorem reject_rec :
    reject s =
      { s with err := s.err ||| 0b001000, out := s.out ++ [.log 4], radio := s.radio ++ [.armRx s.freqOffset] } := rfl

/-! ### The whole of `HOP` and of `ACCEPT` -/

/-- `HOP` of this hardware, whole. -/
theorem hop_rec :
    hop Config.params s =
      { s with
        channelIndex := nextIndex Config.params s.tlmPending s.channelIndex,
        missedCount := if s.pktSeen then s.missedCount else sat16 (s.missedCount.toNat + 1),
        pktSeen := false,
        hopCounter := if s.hopCounter + 1 = 100 then 0 else s.hopCounter + 1,
        rxCount := if s.hopCounter + 1 = 100 then 0 else s.rxCount,
        linkQuality := if s.hopCounter + 1 = 100 then s.rxCount.setWidth 8 else s.linkQuality,
        connState := if s.hopCounter + 1 = 100 then (if s.rxCount = 0 then .lost else .locked) else s.connState,
        hopTimer := hopInterval (if s.hopCounter + 1 = 100 then (if s.rxCount = 0 then .lost else .locked) else s.connState),
        radio := s.radio ++ [.setIdle, tuneCmd s (nextIndex Config.params s.tlmPending s.channelIndex).toNat] ++
          [if s.tlmPending then .armTx else .armRx s.freqOffset],
        dir := if s.tlmPending then .transmittingFrom else .receivingInto,
        tlmPending := false,
        err := s.err ||| (if s.dir = .transmittingFrom then 0b010000 else 0) ||| (if s.pktSeen then 0 else 0b000100) |||
          (if s.hopCounter + 1 = 100 ∧ s.rxCount = 0 ∧ s.connState ≠ .lost then 0b100000 else 0),
        out := s.out ++ (if s.dir = .transmittingFrom then [.log 5] else []) ++ (if s.pktSeen then [] else [.frameLost]) ++
          (if s.hopCounter + 1 = 100 ∧ s.rxCount = 0 ∧ s.connState ≠ .lost then [.connLost] else []) ++
          (if s.hopCounter + 1 = 100 ∧ s.rxCount ≠ 0 ∧ s.connState ≠ .locked then [.connRestored] else []),
        pkt := if s.tlmPending then Memory.writeAll pktFill s.pkt 0 (tlmReply Config.params s).1.toList else s.pkt } := by
  rw [hop_eq, hopTimeout_rec, advance, missAccount_rec, hopCount_rec, hopReload, hopTune_eq, hopArm_rec]
  rfl

/-- `ACCEPT` of this hardware, whole. -/
theorem accept_rec :
    accept Config.params s =
      { s with
        pktSeen := true,
        rxCount := s.rxCount + 1,
        connState := .locked,
        hopTimer := if s.connState = .locked then s.hopTimer else 9,
        rssi := decodeRssiByte (pktRead s 18),
        chan := (decodeChannels Config.params (pktFrame s)).map (BitVec.setWidth 12),
        tlmPending := if (pktRead s 3).toNat % 4 = 2 then true else s.tlmPending,
        tlmId := if (pktRead s 3).toNat % 4 = 2 then pktRead s 4 else s.tlmId,
        out := s.out ++ (if s.connState = .locked then [] else [.connRestored]) ++
          [.updateChannels (((decodeChannels Config.params (pktFrame s)).map (BitVec.setWidth 12)).map (BitVec.setWidth 16))
            s.linkQuality],
        dir := .idle,
        pkt := Memory.write pktFill s.pkt 19 0 } := by
  have latch (t : State) : tlmLatch t =
      { t with tlmPending := if (pktRead t 3).toNat % 4 = 2 then true else t.tlmPending,
               tlmId := if (pktRead t 3).toNat % 4 = 2 then pktRead t 4 else t.tlmId } := by
    rw [tlmLatch_eq]
    by_cases h : (pktRead t 3).toNat % 4 = 2 <;> simp only [h, if_true, if_false]
  have lock (t : State) : lockOnFrame Config.params t =
      { t with connState := .locked, hopTimer := if t.connState = .locked then t.hopTimer else 9,
               out := t.out ++ (if t.connState = .locked then [] else [.connRestored]) } := by
    rw [lockOnFrame_eq t Config.params_rephaseTicks]
    by_cases h : t.connState = .locked
    · cases t; simp_all
    · simp only [h, if_false]
  unfold accept acceptValues
  simp only [latch, lock]
  rfl

end Sys2Proof.Machine
end

