-- ==== Sys2Proof/Laws/Script.lean ====
section
/-! SUPPORT. `exec` neither reads nor writes the stimulus script (log entry 1): the script only says what runs next. -/

namespace Sys2Proof.Machine

/-- `f` neither reads nor writes the script. -/
def ScriptFree (f : State → State) : Prop :=
  ∀ (s : State) (sc : List Stimulus), f { s with script := sc } = { f s with script := sc }

theorem ScriptFree.whenRunning {f : State → State} (h : ScriptFree f) : ScriptFree (whenRunning f) := by
  intro s sc
  unfold Machine.whenRunning
  by_cases hr : s.run = true
  · rw [if_pos (by exact hr), if_pos hr, h]
  · rw [if_neg (by exact hr), if_neg hr]; rfl

theorem hop_scriptFree : ScriptFree (hop Config.params) := fun s sc => by rw [hop_rec, hop_rec]; rfl

theorem accept_scriptFree : ScriptFree (accept Config.params) := fun s sc => by rw [accept_rec, accept_rec]; rfl

theorem tick_scriptFree : ScriptFree (tick Config.params) := fun s sc => by
  rw [tick_eq, tick_eq]
  by_cases h : s.hopTimer = 1
  · rw [if_pos (by exact h), if_pos h, ← hop_scriptFree]
  · rw [if_neg (by exact h), if_neg h]

theorem missAccount_scriptFree : ScriptFree missAccount := fun s sc => by rw [missAccount_rec, missAccount_rec]

theorem windowEval_scriptFree : ScriptFree windowEval := fun s sc => by rw [windowEval_rec, windowEval_rec]

theorem ovfRecover_scriptFree : ScriptFree ovfRecover := fun s sc => by rw [ovfRecover_rec, ovfRecover_rec]

theorem tlmOpen_scriptFree : ScriptFree (tlmOpen Config.params) := fun s sc => by
  rw [tlmOpen_eq _ Config.params_hubTlmEn, tlmOpen_eq _ Config.params_hubTlmEn,
    show tlmReply Config.params { s with script := sc } = tlmReply Config.params s from rfl]

theorem tlmLatch_scriptFree : ScriptFree tlmLatch := fun s sc => by
  rw [tlmLatch_eq, tlmLatch_eq]
  by_cases h : (pktRead s 3).toNat % 4 = 2
  · rw [if_pos (by exact h), if_pos h]; rfl
  · rw [if_neg (by exact h), if_neg h]

theorem lockOnFrame_scriptFree : ScriptFree (lockOnFrame Config.params) := fun s sc => by
  rw [lockOnFrame_eq _ Config.params_rephaseTicks, lockOnFrame_eq _ Config.params_rephaseTicks]
  by_cases h : s.connState = .locked
  · rw [if_pos (by exact h), if_pos h]
  · rw [if_neg (by exact h), if_neg h]

theorem rxDone_scriptFree : ScriptFree (rxDone Config.params) := fun s sc => by
  unfold rxDone
  by_cases h : s.run = true ∧ s.dir = .receivingInto
  · rw [if_pos (by exact h), if_pos h]
    by_cases h' : pktValid Config.params s = true
    · rw [if_pos (by exact h'), if_pos h', ← accept_scriptFree]
    · rw [if_neg (by exact h'), if_neg h']; rfl
  · rw [if_neg (by exact h), if_neg h]; rfl

theorem regWrite_scriptFree (n : BitVec 6) (d : BitVec 16) : ScriptFree (regWrite n d) := fun s sc => by
  simp only [regWrite, ctrlWrite, startBlock_eq]; split_ifs <;> rfl

theorem htTableWrite_scriptFree (i : BitVec 6) (j : BitVec 2) (d : BitVec 16) :
    ScriptFree (htTableWrite Config.params i j d) := fun s sc => by
  simp only [htTableWrite]; split_ifs <;> rfl

/-- `exec` neither reads nor writes the script. -/
theorem exec_script {i : Instr} {s t : State} (hx : exec i s = .next t) (sc : List Stimulus) :
   exec i { s with script := sc } = .next { t with script := sc } := by
  cases i <;> cases hx
  case tick => exact congrArg _ (tick_scriptFree.whenRunning s sc)
  case hop => exact congrArg _ (hop_scriptFree.whenRunning s sc)
  case accept => exact congrArg _ (accept_scriptFree.whenRunning s sc)
  case missAccount => exact congrArg _ (missAccount_scriptFree.whenRunning s sc)
  case windowEval => exact congrArg _ (windowEval_scriptFree.whenRunning s sc)
  case ovfRecover => exact congrArg _ (ovfRecover_scriptFree.whenRunning s sc)
  case ovfRx => exact congrArg _ (ScriptFree.whenRunning (f := ovfRx) (fun s sc => ovfRecover_scriptFree (raise _ s) sc) s sc)
  case ovfTx => exact congrArg _ (ScriptFree.whenRunning (f := ovfTx) (fun s sc => ovfRecover_scriptFree (raise _ s) sc) s sc)
  case ovfBoth => exact congrArg _ (ScriptFree.whenRunning (f := ovfBoth) (fun s sc => ovfRecover_scriptFree (raise _ (raise _ s)) sc) s sc)
  case tlmOpen => exact congrArg _ (tlmOpen_scriptFree.whenRunning s sc)
  case tlmLatch => exact congrArg _ (tlmLatch_scriptFree.whenRunning s sc)
  case lockOnFrame => exact congrArg _ (lockOnFrame_scriptFree.whenRunning s sc)
  case rxDone => exact congrArg _ (rxDone_scriptFree s sc)
  case regWr => exact congrArg _ (regWrite_scriptFree _ _ s sc)
  case htWr => exact congrArg _ (htTableWrite_scriptFree _ _ _ s sc)
  case txDone => rw [exec_txDone]; split_ifs <;> rfl
  case start => rw [exec_start]; split_ifs <;> rfl
  case stop => exact congrArg _ (ScriptFree.whenRunning (f := stopBlock) (fun s sc => rfl) s sc)
  case txTimeout => exact congrArg _ (ScriptFree.whenRunning (f := txTimeout) (fun s sc => rfl) s sc)
  case advance => exact congrArg _ (ScriptFree.whenRunning (f := advance Config.params) (fun s sc => rfl) s sc)
  case reject => exact congrArg _ (ScriptFree.whenRunning (f := reject) (fun s sc => rfl) s sc)
  all_goals rfl

end Sys2Proof.Machine
end

