-- ==== Sys2Proof/Laws/Step.lean ====
section
/-! SUPPORT. The five cases of `fetch`, and what placing a word does. -/

namespace Sys2Proof.Machine

variable {s : State} {tail : List Stimulus}

theorem fetch_nil (h : s.script = []) : fetch s = (none, beginOp s) := by simp [fetch, h]

theorem fetch_dma {f : Frame} (h : s.script = .dma f :: tail) :
    fetch s = (none, storeFrame f { beginOp s with script := tail }) := by simp [fetch, h]

theorem fetch_inputs {d : DataInputs} (h : s.script = .inputs d :: tail) :
    fetch s = (none, { beginOp s with inputs := d, script := tail }) := by simp [fetch, h]

theorem fetch_sample_ok {smp rest : Sample} {i : Instr} (h : s.script = .sample smp :: tail)
    (hd : decodeSample smp = .ok (i, rest)) :
    fetch s = (some i, { beginOp s with script := putBack rest tail }) := by simp [fetch, h, hd]

theorem fetch_sample_error {smp : Sample} {r : Reject} (h : s.script = .sample smp :: tail)
    (hd : decodeSample smp = .error r) :
    fetch s = (none, { beginOp s with script := tail }) := by simp [fetch, h, hd]

/-- A step is `exec` of what was fetched. -/
theorem step_of_fetch_some {i : Instr} {s' : State} (h : fetch s = (some i, s')) : step s = exec i s' := by
  simp [step, h]

theorem step_of_fetch_none {s' : State} (h : fetch s = (none, s')) : step s = .next s' := by simp [step, h]

theorem putBack_error {rest : Sample} {r : Reject} (h : decodeSample rest = .error r) : putBack rest tail = tail := by
  simp [putBack, h]

theorem putBack_ok {rest : Sample} {x : Instr × Sample} (h : decodeSample rest = .ok x) :
    putBack rest tail = .sample rest :: tail := by simp [putBack, h]

@[simp] theorem withFetchWord_script (nbits w : Nat) :
    (s.withFetchWord nbits w).script = .sample (tableSample nbits w) :: s.script := rfl

end Sys2Proof.Machine
end

