-- ==== Sys2Proof/Laws/Words.lean ====
section
/-! SUPPORT. Joined bit fields, bit slices and single bits as numbers, at the widths the block uses. -/

namespace Sys2Proof

/-- Joining puts the left word above the right one. -/
theorem toNat_append_eq {a b : Nat} (x : BitVec a) (y : BitVec b) : (x ++ y).toNat = x.toNat * 2 ^ b + y.toNat := by
  rw [BitVec.toNat_append, ← Nat.shiftLeft_add_eq_or_of_lt y.isLt, Nat.shiftLeft_eq]

@[simp] theorem toNat_append_8_8 (x y : BitVec 8) : BitVec.toNat (w := 16) (x ++ y) = x.toNat * 256 + y.toNat :=
  toNat_append_eq x y

@[simp] theorem toNat_append_4_8 (x : BitVec 4) (y : BitVec 8) :
    BitVec.toNat (w := 12) (x ++ y) = x.toNat * 256 + y.toNat := toNat_append_eq x y

@[simp] theorem toNat_append_4_4 (x y : BitVec 4) : BitVec.toNat (w := 8) (x ++ y) = x.toNat * 16 + y.toNat :=
  toNat_append_eq x y

@[simp] theorem toNat_append_1_7 (x : BitVec 1) (y : BitVec 7) :
    BitVec.toNat (w := 8) (x ++ y) = x.toNat * 128 + y.toNat := toNat_append_eq x y

/-- A slice of a word as a number. -/
theorem toNat_slice {w : Nat} (x : BitVec w) (lo len : Nat) :
    (x.extractLsb' lo len).toNat = x.toNat / 2 ^ lo % 2 ^ len := by
  simp [Nat.shiftRight_eq_div_pow]

/-- The low bit of a word says whether it is odd. -/
theorem getLsbD_zero_eq {w : Nat} (x : BitVec w) : x.getLsbD 0 = decide (x.toNat % 2 = 1) := by
  simp [BitVec.getLsbD, Nat.testBit_zero]

namespace Machine

/-- Bit 7 of the status byte (30_encoding.md R85). -/
theorem crcOk_iff (b : Byte) : crcOk b = true ↔ 128 ≤ b.toNat := by
  revert b; unfold crcOk; decide +kernel

/-- The nibble of a channel as a number (30_encoding.md R84). -/
theorem nibbleOf_toNat (k : Nat) (b : Byte) : (nibbleOf k b).toNat = if k % 2 = 0 then b.toNat % 16 else b.toNat / 16 := by
  unfold nibbleOf
  have := b.isLt
  split_ifs <;> rw [toNat_slice] <;> omega

/-- The field of a channel as a number (30_encoding.md R84). -/
theorem channelField_toNat (f : Frame) (k : Fin 8) :
    (channelField f k).toNat =
      (if k.val % 2 = 0 then f[nibblePos[k]].toNat % 16 else f[nibblePos[k]].toNat / 16) * 256 + f[loPos[k]].toNat := by
  rw [channelField, toNat_append_4_8, nibbleOf_toNat]

/-- The mask of this hardware passes a 12-bit field through (41_framer_validator.md R146). -/
theorem setWidth_and_mask (x : BitVec 12) : x.setWidth 16 &&& 0x0FFF#16 = x.setWidth 16 := by
  apply BitVec.eq_of_toNat_eq
  have := x.isLt
  rw [BitVec.toNat_and, BitVec.toNat_setWidth, show (0x0FFF#16).toNat = 2 ^ 12 - 1 from rfl, Nat.and_two_pow_sub_one_eq_mod]
  omega

/-- `VALIDATE` as a proposition (41_framer_validator.md R142). -/
theorem validateFrame_iff (p : Params) (f : Frame) (id0 id1 : Byte) :
    validateFrame p f id0 id1 = true ↔ crcOk f[19] = true ∧ (p.idCheckEn = false ∨ (f[1] = id0 ∧ f[2] = id1)) := by
  simp [validateFrame]

end Machine

end Sys2Proof
end

