-- ==== Sys2Proof/Tests/Slice0.lean ====
section
/-! SUPPORT. The model's own tests: ill-formed terms, words of 30_encoding.md, vectors of 95_test_vectors.md (the section is
named in each comment), and for every statement of Obligations.lean that has hypotheses a state that meets them. -/

namespace Sys2Proof.Tests

open Sys2Proof Sys2Proof.Machine

/-! ### Helpers -/

/-- The tuple in which 95_test_vectors.md writes a state. -/
structure Tuple where
  conn : ConnState
  dir : Dir
  index : Nat
  hops : Nat
  rx : Nat
  quality : Nat
  missed : Nat
  timer : Nat
  rssi : Nat
  tlmId : Nat
  seen : Bool
  pending : Bool
  err : Nat
  deriving DecidableEq, Repr

/-- The tuple of a state. -/
def tupleOf (s : State) : Tuple :=
  ⟨s.connState, s.dir, s.channelIndex.toNat, s.hopCounter.toNat, s.rxCount.toNat, s.linkQuality.toNat, s.missedCount.toNat,
   s.hopTimer.toNat, s.rssi.toNat, s.tlmId.toNat, s.pktSeen, s.tlmPending, s.err.toNat⟩

/-- The test hop table of section 2, as the memory that holds it. -/
def testHt : Memory :=
  (List.range 47).flatMap fun i =>
    [(4 * i, BitVec.ofNat 8 ((5 * i + 3) % 235)), (4 * i + 1, BitVec.ofNat 8 (0x10 + i)),
     (4 * i + 2, BitVec.ofNat 8 (0x80 + i)), (4 * i + 3, BitVec.ofNat 8 (0xC0 + i % 16))]

/-- A running block with the test identity and table, `PKT` all zero, in the state of a tuple. -/
def live (t : Tuple) : State :=
  { State.reset with
    run := true, connState := t.conn, dir := t.dir, channelIndex := BitVec.ofNat 6 t.index, hopCounter := BitVec.ofNat 7 t.hops,
    rxCount := BitVec.ofNat 7 t.rx, linkQuality := BitVec.ofNat 8 t.quality, missedCount := BitVec.ofNat 16 t.missed,
    hopTimer := BitVec.ofNat 9 t.timer, rssi := BitVec.ofNat 8 t.rssi, tlmId := BitVec.ofNat 8 t.tlmId, pktSeen := t.seen,
    tlmPending := t.pending, err := BitVec.ofNat 6 t.err, txid0 := 0xA5, txid1 := 0x3C, ht := testHt }

/-- What a test looks at: the tuple and both ports; `none` if the operation did not answer a next state. -/
def seen (r : Result) : Option (Tuple × List RadioCmd × List OutEvent) :=
  match r with
  | .next t => some (tupleOf t, t.radio, t.out)
  | _ => none

/-- One observation of the next state. -/
def get {α : Type} (r : Result) (f : State → α) : Option α :=
  match r with
  | .next t => some (f t)
  | _ => none

/-- A block that has just been started. -/
def syncing : State := live ⟨.syncing, .receivingInto, 0, 0, 0, 0, 0, 500, 0, 0, false, false, 0⟩

/-- The locked block of section 8's first `HOP`, with a hop event due. -/
def locked : State := live ⟨.locked, .idle, 46, 10, 4, 50, 0, 1, 0, 0, true, false, 0⟩

/-- A locked block that transmits. -/
def sending : State := live ⟨.locked, .transmittingFrom, 5, 6, 4, 99, 0, 1, 30, 0x11, false, false, 0⟩

/-- A block one hop event before the close of an empty window. -/
def lastHop : State := live ⟨.locked, .receivingInto, 0, 99, 0, 37, 11, 1, 0, 0, false, false, 0⟩

/-- A block with a telemetry request and a hop event due. -/
def requested : State := live ⟨.locked, .idle, 10, 5, 4, 99, 0, 1, 30, 0x11, true, true, 0⟩

/-- The frame of program P1 step 3. -/
def frameP1 : Frame := #v[0x11, 0xA5, 0x3C, 0x02, 0x5A, 0x00, 0x00, 0xFF, 0x00, 0x01, 0x70, 0x04, 0x55, 0xAA, 0xDC, 0xDC, 0x25,
  0x35, 0x96, 0x80]

/-- The frame of program P3 step 1: identity byte 1 is wrong. -/
def frameBad : Frame := #v[0x11, 0xA5, 0x3D, 0x06, 0x11, 0x00, 0x64, 0x64, 0x64, 0x64, 0x00, 0x00, 0x64, 0x64, 0x64, 0x64, 0x00,
  0x00, 0x3C, 0x80]

/-- Parameters with both telemetry extensions on. -/
def hubParams : Params := { Config.params with extTlmEn := true, hubTlmEn := true }

/-! ### Well-formedness -/

theorem test_wf_refuses_write_of_ctrl : Instr.wf (.regWr 0 5) = false := by decide
theorem test_wf_accepts_other_writes : Instr.wf (.regWr 1 5) = true ∧ Instr.wf (.regWr 63 0) = true := by decide
theorem test_legal_refuses_empty_table : Params.legal { Config.params with nHop := 0 } = false := by decide
theorem test_legal_refuses_long_table : Params.legal { Config.params with nHop := 65 } = false := by decide
theorem test_legal_refuses_rephase_zero : Params.legal { Config.params with rephaseTicks := some 0 } = false := by decide
theorem test_legal_refuses_rephase_ten : Params.legal { Config.params with rephaseTicks := some 10 } = false := by decide
theorem test_legal_refuses_hub_without_ext : Params.legal { Config.params with hubTlmEn := true } = false := by decide
theorem test_wf_memory_refuses_fill : Memory.wf pktFill 20 [(3, 0)] = false := by decide
theorem test_wf_memory_refuses_order : Memory.wf pktFill 20 [(3, 1), (3, 2)] = false := by decide
theorem test_wf_memory_refuses_outside : Memory.wf pktFill 20 [(20, 1)] = false := by decide

/-! ### Decoding: words written out from the bit fields of 30_encoding.md R88, R90, R91 -/

theorem test_decode_reset : decodeSample { rst := true, hw := 0x2000001, ev := 0b11111, fnSel := 3 } = .ok (.reset, {}) := by decide
theorem test_decode_ovfRx : decodeTableWord 8 0b01000 = some .ovfRx := by decide
theorem test_decode_ovfTx : decodeTableWord 8 0b10000 = some .ovfTx := by decide
theorem test_decode_ovfBoth : decodeTableWord 8 0b11000 = some .ovfBoth := by decide
theorem test_decode_rxDone : decodeTableWord 8 0b00100 = some .rxDone := by decide
theorem test_decode_txDone : decodeTableWord 8 0b00010 = some .txDone := by decide
theorem test_decode_tick : decodeTableWord 8 0b00001 = some .tick := by decide
theorem test_decode_regRd : decodeTableWord 32 0b01_001011_00_0000000000000000 = some (.regRd 11) := by decide
theorem test_decode_regRd_ignored_bits : decodeTableWord 32 0b01_000011_11_1111111111111111 = some (.regRd 3) := by decide
theorem test_decode_regWr : decodeTableWord 32 0b10_000001_00_0011110010100101 = some (.regWr 1 0x3CA5) := by decide
theorem test_decode_htWr : decodeTableWord 32 0b11_101110_11_0000000011001110 = some (.htWr 46 3 0xCE) := by decide
theorem test_decode_start : decodeTableWord 32 0b10_000000_00_0000000000000001 = some .start := by decide
theorem test_decode_stop : decodeTableWord 32 0b10_000000_00_1111111111111110 = some .stop := by decide
theorem test_decode_no_command : decodeTableWord 32 0b00_000001_00_0000000000000001 = none := by decide
theorem test_decode_validate : decodeFn 0b001 { f := frameP1, id0 := 1, id1 := 2 } = .ok (.validate frameP1 1 2) := by decide
theorem test_decode_decodeCh : decodeFn 0b010 { f := frameP1 } = .ok (.decodeCh frameP1) := by decide
theorem test_decode_decodeRssi : decodeTableWord 8 0b011 = some (.decodeRssi 0) := by decide
theorem test_decode_encodeTlm :
    decodeFn 0b100 { tid := 1, a0 := 2, a1 := 3, rs := 4, id0 := 5, id1 := 6, nIn := 7 } =
      .ok (.encodeTlm 1 2 3 4 5 6 7 (Vector.replicate 10 0)) := by decide
theorem test_decode_hubStuff : decodeTableWord 8 0b101 = some (.hubStuff 0 0) := by decide
theorem test_decode_reserved : decodeFn 0b110 {} = .error (.reservedFnSel 6) ∧ decodeFn 0b111 {} = .error (.reservedFnSel 7) ∧
    decodeTableWord 8 0b110 = some .rxDone := by decide

/-- Every operation of a sample in the order of R89. -/
theorem test_sample_order :
    sampleOps { hw := 0x2000001, ev := 0b11111, fnSel := 3, fnArgs := { raw := 150 } } =
      [.start, .ovfBoth, .rxDone, .txDone, .tick, .decodeRssi 150] := by decide

/-- Script lines of R98, R99: `TXID 0xA5, 0x3C`, `FOFF -12` (program P1 step 0) and entry 1 of `LOADHT` (section 2). -/
theorem test_script_lines :
    Script.txid 0xA5 0x3C = [.sample { hw := 0x2043CA5 }] ∧ Script.foff (-12) = [.sample { hw := 0x20800F4 }] ∧
    Script.htw 1 0x08 0x11 0x81 0xC1 =
      [.sample { hw := 0x3040008 }, .sample { hw := 0x3050011 }, .sample { hw := 0x3060081 }, .sample { hw := 0x30700C1 }] := by
  decide

/-- `RXFRAME` of program P1 step 3. -/
theorem test_rxframe :
    Script.rxframe 0xA5 0x3C 2 0x5A #v[0, 2047, 1024, 1, 1365, 682, 1500, 988] 150 = [.dma frameP1, .sample { ev := 0b00100 }] := by
  decide

/-- The word a row of the table gives runs as the next step. -/
theorem test_fetch_word :
    get (step (State.reset.withFetchWord 32 0x2043CA5)) (fun t => (t.txid0, t.txid1, t.script)) = some (0xA5, 0x3C, []) := by decide

/-! ### The pure units -/

/-- Section 3, rows 6 to 9 and the out-of-range input. -/
theorem test_decodeCh :
    get (execDecodeCh frameP1 syncing) (·.fnResult) = some (some (.channels #v[0, 2047, 1024, 1, 1365, 682, 1500, 988])) ∧
    encodeCh #v[988, 1500, 2012, 172, 1811, 992, 1024, 2047] =
      #v[0xDC, 0xDC, 0xDC, 0xAC, 0x53, 0x07, 0x13, 0xE0, 0x00, 0xFF, 0x37, 0x74] ∧
    decodeChannels Config.params
        #v[0, 0, 0, 0, 0, 0, 0xFF, 0, 0, 0, 0x8F, 0, 0, 0, 0, 0xBC, 0, 0xA0, 0, 0] = #v[4095, 2048, 0, 0, 0, 0, 0, 2748] ∧
    decodeChannels { Config.params with chMask := 0x07FF }
        #v[0, 0, 0, 0, 0, 0, 0xFF, 0, 0, 0, 0x8F, 0, 0, 0, 0, 0xBC, 0, 0xA0, 0, 0] = #v[2047, 0, 0, 0, 0, 0, 0, 700] := by decide

/-- Section 4, the corner cases, and raw 15. -/
theorem test_decodeRssi :
    [0, 1, 2, 15, 50, 127, 128, 145, 146, 150, 200, 254, 255].map decodeRssiByte =
      [65, 65, 66, 73, 93, 136, 246, 255, 0, 2, 30, 60, 61] ∧
    get (execDecodeRssi 150 syncing) (·.fnResult) = some (some (.rssi 2)) := by decide

/-- Section 5, every row. -/
theorem test_validate :
    ([(0xA5, 0x3C, 0x80), (0xA5, 0x3C, 0xAF), (0xA5, 0x3C, 0xFF), (0xA5, 0x3C, 0x7F), (0xA5, 0x3C, 0x2F), (0xA5, 0x3C, 0x00),
      (0xA5, 0x3D, 0x80), (0x3C, 0xA5, 0x80), (0x00, 0x00, 0x80)] : List (Byte × Byte × Byte)).map
        (fun x => validateFrame Config.params (((frameP1.set 1 x.1).set 2 x.2.1).set 19 x.2.2) 0xA5 0x3C) =
      [true, true, true, false, false, false, false, false, false] ∧
    validateFrame { Config.params with idCheckEn := false } frameBad 0xA5 0x3C = true ∧
    get (execValidate frameP1 0xA5 0x3C syncing) (·.fnResult) = some (some (.valid true)) := by decide

/-- Section 6, rows 1 to 4. -/
theorem test_encodeTlm :
    get (execEncodeTlm 0x5A 0x7B 0x2D 2 0xA5 0x3C 6 #v[0x5E, 2, 0x5D, 0x3E, 0, 0x5E, 0, 0, 0, 0] syncing) (·.fnResult) =
      some (some (.telemetry #v[0x11, 0xA5, 0x3C, 0x7B, 0x2D, 2, 0, 0, 0, 0, 0, 0, 0, 0, 0, 0, 0, 0, 0, 0] 0)) ∧
    encodeTelemetry { Config.params with extTlmEn := true } 0x5A 0x7B 0x2D 2 0xA5 0x3C 6 (Vector.replicate 10 1) =
      (#v[0x11, 0xA5, 0x3C, 0x7B, 0x2D, 2, 0, 0x5A, 0, 0, 0, 0, 0, 0, 0, 0, 0, 0, 0, 0], 0) ∧
    encodeTelemetry hubParams 0x22 0x40 0x41 0x5D 0xA5 0x3C 6 #v[0x5E, 2, 0x5D, 0x3E, 0, 0x5E, 9, 9, 9, 9] =
      (#v[0x11, 0xA5, 0x3C, 0x40, 0x41, 0x5D, 6, 0x22, 0x5E, 2, 0x5D, 0x3E, 0, 0x5E, 0, 0, 0, 0, 0, 0], 6) ∧
    encodeTelemetry hubParams 0x22 0x40 0x41 0x5D 0xA5 0x3C 13
        #v[0xA0, 0xA1, 0xA2, 0xA3, 0xA4, 0xA5, 0xA6, 0xA7, 0xA8, 0xA9] =
      (#v[0x11, 0xA5, 0x3C, 0x40, 0x41, 0x5D, 10, 0x22, 0xA0, 0xA1, 0xA2, 0xA3, 0xA4, 0xA5, 0xA6, 0xA7, 0xA8, 0xA9, 0, 0], 10) := by
  decide

/-- Section 7, rows 1, 4, 5, 6, 7, 8, and their de-stuffing. -/
theorem test_hubStuff :
    ([(2, 0x1234), (2, 0x005E), (3, 0x5D00), (6, 0x3E5D), (0x10, 0x5E5D), (0x10, 0x5D5E)] : List (Byte × BitVec 16)).map
        (fun x => hubStuffBytes x.1 x.2) =
      [[0x5E, 2, 0x34, 0x12, 0x5E], [0x5E, 2, 0x5D, 0x3E, 0, 0x5E], [0x5E, 3, 0, 0x5D, 0x3D, 0x5E],
       [0x5E, 6, 0x5D, 0x3D, 0x3E, 0x5E], [0x5E, 0x10, 0x5D, 0x3D, 0x5D, 0x3E, 0x5E],
       [0x5E, 0x10, 0x5D, 0x3E, 0x5D, 0x3D, 0x5E]] ∧
    get (execHubStuff 2 0x1234 syncing) (·.fnResult) = some (some (.stuffed [0x5E, 2, 0x34, 0x12, 0x5E] 5)) ∧
    hubUnstuff [0x5E, 0x10, 0x5D, 0x3E, 0x5D, 0x3D, 0x5E] = some (0x10, 0x5D5E) := by decide

/-! ### Hop scheduler (section 8) -/

/-- The first `HOP`: index 46 wraps to 0 and the new index is tuned. -/
theorem test_hop_wraps :
    seen (exec .hop { locked with freqOffset := 7 }) =
      some (⟨.locked, .receivingInto, 0, 11, 4, 50, 0, 9, 0, 0, false, false, 0⟩,
        [.setIdle, .tune 3 16 128 192, .armRx 7], []) := by decide +kernel

/-- The window close with frames. -/
theorem test_hop_closes_window :
    seen (exec .hop (live ⟨.locked, .idle, 20, 99, 37, 12, 0, 1, 0, 0, true, false, 0⟩)) =
      some (⟨.locked, .receivingInto, 21, 0, 0, 37, 0, 9, 0, 0, false, false, 0⟩,
        [.setIdle, .tune 108 37 149 197, .armRx 0], []) := by decide +kernel

/-- `TICK` of a halted block, from 2 and from 1 (program P2 step B: the empty window closes, `Lost` loads 500). -/
theorem test_tick :
    get (exec .tick { State.reset with hopTimer := 500 }) (·.hopTimer) = some 500 ∧
    get (exec .tick { syncing with hopTimer := 2 }) (fun t => (t.hopTimer, t.radio)) = some (1, []) ∧
    seen (exec .tick lastHop) =
      some (⟨.lost, .receivingInto, 1, 0, 0, 0, 12, 500, 0, 0, false, false, 0b100100⟩,
        [.setIdle, .tune 8 17 129 193, .armRx 0], [.frameLost, .connLost]) := by decide +kernel

/-- `ADVANCE` at 0, 45 and 46, in a table of one entry, and with an extra step (sections 8 and 15). -/
theorem test_advance :
    [0, 45, 46].map (fun i => get (exec .advance { syncing with channelIndex := i }) (·.channelIndex)) =
      [some 1, some 46, some 0] ∧
    nextIndex { Config.params with nHop := 1 } false 0 = 0 ∧
    nextIndex { Config.params with tlmExtraSteps := 1 } true 45 = 0 ∧
    nextIndex { Config.params with tlmExtraSteps := 1 } true 46 = 1 ∧
    nextIndex { Config.params with tlmExtraSteps := 1 } false 45 = 46 := by decide

/-! ### Connection-loss detector (section 9) -/

theorem test_missAccount :
    get (exec .missAccount { syncing with missedCount := 10 }) (fun t => (t.missedCount, t.err, t.out)) =
      some (11, 0b000100, [.frameLost]) ∧
    get (exec .missAccount { locked with missedCount := 10 }) (fun t => (t.pktSeen, t.missedCount, t.out)) = some (false, 10, []) ∧
    get (exec .missAccount { syncing with missedCount := 65535 }) (·.missedCount) = some 65535 := by decide

theorem test_lockOnFrame :
    get (exec .lockOnFrame { syncing with hopTimer := 497 }) (fun t => (t.connState, t.hopTimer, t.out)) =
      some (.locked, 9, [.connRestored]) ∧
    get (exec .lockOnFrame { locked with hopTimer := 4 }) (fun t => (t.hopTimer, t.out)) = some (4, []) ∧
    (lockOnFrame { Config.params with rephaseTicks := some 8 } { locked with hopTimer := 3 }).hopTimer = 8 := by decide

theorem test_windowEval :
    get (exec .windowEval { locked with rxCount := 0 }) (fun t => (t.connState, t.err, t.linkQuality, t.out)) =
      some (.lost, 0b100000, 0, [.connLost]) ∧
    get (exec .windowEval { locked with rxCount := 0, connState := .lost }) (fun t => (t.connState, t.out)) = some (.lost, []) ∧
    get (exec .windowEval { locked with rxCount := 100 }) (fun t => (t.linkQuality, t.rxCount, t.out)) = some (100, 0, []) := by decide

/-! ### Framer (section 14, programs P1 and P3) -/

/-- P1 step 3: the locking frame. -/
theorem test_rxDone_accepts :
    seen (exec .rxDone (storeFrame frameP1 { syncing with hopTimer := 497 })) =
      some (⟨.locked, .idle, 0, 0, 1, 0, 0, 9, 2, 0x5A, true, true, 0⟩, [],
        [.connRestored, .updateChannels #v[0, 2047, 1024, 1, 1365, 682, 1500, 988] 0]) ∧
    get (exec .rxDone (storeFrame frameP1 syncing)) (fun t => (pktRead t 18, pktRead t 19)) = some (0x96, 0) := by decide +kernel

/-- P3 steps 1 and 5: a rejected frame stays in `PKT`; an unexpected `rx_done` is dropped. -/
theorem test_rxDone_rejects :
    get (exec .rxDone (storeFrame frameBad syncing)) (fun t => (t.err, t.radio, t.out, pktRead t 19, t.rxCount)) =
      some (0b001000, [.armRx 0], [.log 4], 0x80, 0) ∧
    exec .rxDone (storeFrame frameP1 locked) = .next (storeFrame frameP1 locked) := ⟨by decide, rfl⟩

/-- P3 step 4: `linkQuality` in the event is the previous window's, and no restore is announced while `Locked`. -/
theorem test_accept :
    seen (exec .accept (storeFrame (rxFrame 0xA5 0x3C 6 0x11 #v[100, 200, 300, 400, 500, 600, 700, 800] 200 0x2F true)
        (live ⟨.locked, .receivingInto, 10, 5, 3, 99, 0, 4, 93, 0, false, false, 0b001001⟩))) =
      some (⟨.locked, .idle, 10, 5, 4, 99, 0, 4, 30, 0x11, true, true, 0b001001⟩, [],
        [.updateChannels #v[100, 200, 300, 400, 500, 600, 700, 800] 99]) := by decide +kernel

theorem test_reject :
    get (exec .reject { syncing with freqOffset := 0xF4 }) (fun t => (t.err, t.radio, t.out)) =
      some (0b001000, [.armRx 0xF4], [.log 4]) := by decide

/-! ### Telemetry (section 10, programs P1 and P3, section 15) -/

theorem test_tlmLatch :
    ([0, 1, 2, 3, 4, 5, 6, 7] : List Byte).map
        (fun q => get (exec .tlmLatch (pktWrite 3 q (pktWrite 4 0x77 syncing))) (fun t => (t.tlmPending, t.tlmId))) =
      [some (false, 0), some (false, 0), some (true, 0x77), some (false, 0), some (false, 0), some (false, 0), some (true, 0x77),
       some (false, 0)] := by decide

/-- P3 step 8. -/
theorem test_tlmOpen :
    get (exec .tlmOpen { requested with inputs := { adc0 := 0x10, adc1 := 0x20 } })
        (fun t => (t.dir, t.tlmPending, t.radio, pktFrame t)) =
      some (.transmittingFrom, false, [.armTx],
        #v[0x11, 0xA5, 0x3C, 0x10, 0x20, 0x1E, 0, 0, 0, 0, 0, 0, 0, 0, 0, 0, 0, 0, 0, 0]) := by decide +kernel

/-- Section 15, hub telemetry with a length of 13. -/
theorem test_tlmOpen_hub :
    (tlmOpen hubParams { requested with inputs := { hubLen := 13 } }).out = [.hubAck 10] := by decide

theorem test_txDone :
    get (exec .txDone { sending with hopTimer := 5, freqOffset := 0xF4 }) (fun t => (t.radio, t.dir, t.hopTimer)) =
      some ([.armRx 0xF4], .receivingInto, 5) ∧
    get (exec .txDone syncing) (·.radio) = some [] := by decide

/-- P3 step 9: `Log(5)` comes first. -/
theorem test_txTimeout :
    get (exec .txTimeout sending) (fun t => (t.err, t.out)) = some (0b010000, [.log 5]) ∧
    get (exec .hop sending) (fun t => (t.err, t.out, t.dir)) = some (0b010100, [.log 5, .frameLost], .receivingInto) := by decide +kernel

/-! ### System operations (section 11) -/

theorem test_start :
    seen (exec .start { sending with run := false, dir := .idle, freqOffset := 0xF4 }) =
      some (⟨.syncing, .receivingInto, 0, 0, 0, 0, 0, 500, 30, 0x11, false, false, 0⟩,
        [.setIdle, .tune 3 16 128 192, .armRx 0xF4], []) ∧
    get (exec .start sending) (fun t => (t.dir, t.radio)) = some (.transmittingFrom, []) := by decide +kernel

theorem test_stop :
    get (exec .stop sending) (fun t => (t.run, t.dir, t.radio, t.hopTimer)) = some (false, .idle, [.setIdle], 1) ∧
    get (exec .stop State.reset) (·.radio) = some [] := by decide

theorem test_regWr :
    get (exec (.regWr 1 0x3CA5) State.reset) (fun t => (t.txid0, t.txid1)) = some (0xA5, 0x3C) ∧
    get (exec (.regWr 2 0x1F4) State.reset) (·.freqOffset) = some 0xF4 ∧
    get (exec (.regWr 1 0x1234) syncing) (fun t => (t.txid0, t.txid1)) = some (0xA5, 0x3C) ∧
    get (exec (.regWr 0 0xFFFE) syncing) (·.run) = some false ∧
    exec (.regWr 4 7) State.reset = .next State.reset ∧ exec (.regWr 13 1) State.reset = .next State.reset :=
  ⟨by decide, by decide, by decide, by decide, rfl, rfl⟩

theorem test_regRd :
    get (exec (.regRd 11) State.reset) (·.hrdata) = some 500 ∧
    get (exec (.regRd 3) requested) (·.hrdata) = some 0x0031 ∧
    get (exec (.regRd 3) { lastHop with connState := .lost }) (·.hrdata) = some 0x0006 ∧
    get (exec (.regRd 2) { syncing with freqOffset := 0xF4 }) (·.hrdata) = some 0x00F4 ∧
    get (exec (.regRd 17) { syncing with chan := #v[0, 2047, 0, 0, 0, 0, 0, 0] }) (·.hrdata) = some 0x07FF ∧
    get (exec (.regRd 15) sending) (·.hrdata) = some 0 := by decide +kernel

theorem test_htWr :
    get (exec (.htWr 46 3 0xCE) State.reset) (fun t => htRead t 187) = some 0xCE ∧
    exec (.htWr 47 0 1) State.reset = .next State.reset ∧
    exec (.htWr 0 0 9) syncing = .next syncing := ⟨by decide, rfl, rfl⟩

theorem test_reset :
    seen (exec .reset (storeFrame frameP1 requested)) =
      some (⟨.syncing, .idle, 0, 0, 0, 0, 0, 500, 0, 0, false, false, 0⟩, [], []) ∧
    get (exec .reset (storeFrame frameP1 requested)) (fun t => (t.run, t.txid0, t.pkt, htRead t 184)) =
      some (false, 0, [], 0xE9) := by decide +kernel

/-! ### Overflow (section 12) and ignored events -/

theorem test_ovfRx :
    get (exec .ovfRx syncing) (fun t => (t.out, t.radio, t.dir, t.err)) =
      some ([.log 1], [.setIdle, .armRx 0], .receivingInto, 0b000001) ∧
    get (exec .ovfRx locked) (fun t => (t.out, t.radio, t.dir)) = some ([.log 1], [.setIdle], .idle) := by decide

theorem test_ovfTx :
    get (exec .ovfTx sending) (fun t => (t.out, t.radio, t.dir, t.err)) =
      some ([.log 2], [.setIdle, .armRx 0], .receivingInto, 0b000010) := by decide

theorem test_ovfBoth :
    get (exec .ovfBoth syncing) (fun t => (t.out, t.radio, t.err)) =
      some ([.log 1, .log 2], [.setIdle, .armRx 0], 0b000011) := by decide

theorem test_ovfRecover :
    get (exec .ovfRecover sending) (fun t => (t.out, t.radio, t.dir)) = some ([], [.setIdle, .armRx 0], .receivingInto) := by decide

theorem test_nopEvent : exec .nopEvent sending = .next sending := rfl

/-- A halted block ignores every event (section 12, last row; section 13 (e)). -/
theorem test_halted : ∀ i ∈ [Instr.tick, .ovfRx, .ovfTx, .ovfBoth, .rxDone, .txDone],
    get (exec i State.reset) (· == State.reset) = some true := by decide

/-! ### Witnesses: for each statement with hypotheses, states and operands that meet them -/

/-- A halted block. -/
def halted : State := State.reset

/-- A locked block that has accepted the hundredth frame of its window, at the last entry of the table. -/
def full : State := live ⟨.locked, .idle, 46, 99, 100, 100, 0, 1, 0, 0, true, false, 0⟩

/-- A syncing block with a valid frame in `PKT`. -/
def receiving : State := storeFrame frameP1 syncing

/-- A locked block, no frame yet in this interval, with a valid frame in `PKT` and a hop event due. -/
def receivingLocked : State := storeFrame frameP1 { lastHop with hopCounter := 5, rxCount := 3 }

/-- A block that was stopped while `Locked`. -/
def stopped : State := { locked with run := false, dir := .idle }

/-- The invariant of a state whose memories are canonical. -/
theorem inv_receiving : Inv receiving := by constructor <;> decide +kernel
theorem inv_full : Inv full := by constructor <;> decide +kernel
theorem inv_lastHop : Inv lastHop := by constructor <;> decide +kernel
theorem inv_requested : Inv requested := by constructor <;> decide +kernel
theorem inv_stopped : Inv stopped := by constructor <;> decide +kernel
theorem inv_locked : Inv locked := by constructor <;> decide +kernel
theorem inv_receivingLocked : Inv receivingLocked := by constructor <;> decide +kernel

/-- The lowest and the highest register a well-formed `REG_WR` names. -/
theorem witness_DecodeEncodeAgree :
    (Instr.wf (.regWr 1 0) = true ∧ encode (.regWr 1 0) = some { hw := 0x2040000 }) ∧
    (Instr.wf (.regWr 63 0xFFFF) = true ∧ encode (.regWr 63 0xFFFF) = some { hw := 0x2FCFFFF }) := by decide

/-- An operation that emits a `Log`, and one that emits `FrameLost`. -/
theorem witness_OutEventWords :
    (∃ t, exec .ovfRx syncing = .next t ∧ t.out = [.log 1]) ∧ (∃ t, exec .missAccount syncing = .next t ∧ t.out = [.frameLost]) :=
  ⟨⟨_, rfl, rfl⟩, _, rfl, rfl⟩

/-- One state for each move of the environment. -/
theorem witness_StepRunsTheDecodedOperation :
    decodeSample { ev := 0b11111 } = .ok (.ovfBoth, { ev := 0b00111 }) ∧
    decodeSample { ev := 0b00001 } = .ok (.tick, {}) ∧
    decodeSample { fnSel := 7 } = .error (.reservedFnSel 7) ∧
    { syncing with script := [.sample { ev := 0b11111 }] }.script = .sample { ev := 0b11111 } :: [] ∧
    { syncing with script := [.sample { fnSel := 7 }] }.script = .sample { fnSel := 7 } :: [] ∧
    { syncing with script := [.dma frameP1] }.script = .dma frameP1 :: [] ∧
    { syncing with script := [.inputs {}] }.script = .inputs {} :: [] ∧
    syncing.script = [] := by decide

theorem witness_SampleServedInRuleOrder :
    { syncing with script := [.sample { hw := 0x2000000, ev := 0b11111 }] }.script =
      .sample { hw := 0x2000000, ev := 0b11111 } :: [] ∧
    sampleOps { hw := 0x2000000, ev := 0b11111 } = [.stop, .ovfBoth, .rxDone, .txDone, .tick] := by decide

theorem witness_StepKeepsInvariants :
    Inv receiving ∧ ∃ t, step (receiving.withSample { ev := 0b00100 }) = .next t :=
  ⟨inv_receiving, _, rfl⟩

/-- `rxCount` 100 and entry 46. -/
theorem witness_InvariantBoundsCountAndIndex : Inv full ∧ full.rxCount = 100 ∧ full.channelIndex = 46 :=
  ⟨inv_full, rfl, rfl⟩

theorem witness_TickCountsDownOrHops :
    (syncing.run = true ∧ 1 < { syncing with hopTimer := 2 }.hopTimer.toNat) ∧
    (locked.run = true ∧ locked.hopTimer = 1) ∧ halted.run = false := by decide

theorem witness_LoadOfTicksGivesOneHop :
    (locked.run = true ∧ locked.hopTimer.toNat = 0 + 1) ∧ (syncing.run = true ∧ syncing.hopTimer.toNat = 499 + 1) := by decide

theorem witness_AdvanceIndexLaw :
    locked.run = true ∧ Config.params.legal = true ∧ Params.legal { Config.params with nHop := 1 } = true ∧
    Params.legal { Config.params with nHop := 64, tlmExtraSteps := 1 } = true := by decide

theorem witness_HopEventEffect :
    (locked.run = true ∧ locked.tlmPending = false) ∧ (requested.run = true ∧ requested.tlmPending = true) ∧
    (full.run = true ∧ full.hopCounter + 1 = 100) := by decide

theorem witness_OnlyTheLockingFrameMovesTheGrid :
    ∃ t, exec .rxDone receiving = .next t ∧ t.hopTimer = 9 ∧ receiving.connState ≠ .locked := ⟨_, rfl, by decide +kernel⟩

theorem witness_MissAccountEffect :
    (locked.run = true ∧ locked.pktSeen = true) ∧ (syncing.run = true ∧ syncing.pktSeen = false) := by decide

theorem witness_LockOnFrameEffect :
    (locked.run = true ∧ locked.connState = .locked) ∧ (syncing.run = true ∧ syncing.connState ≠ .locked) ∧
    { Config.params with rephaseTicks := some 9 }.rephaseTicks = some 9 := by decide

theorem witness_WindowEvalEffect :
    (lastHop.run = true ∧ lastHop.rxCount = 0 ∧ lastHop.connState ≠ .lost) ∧
    ({ lastHop with connState := .lost }.rxCount = 0 ∧ { lastHop with connState := .lost }.connState = .lost) ∧
    (locked.rxCount ≠ 0 ∧ locked.connState = .locked) ∧
    ({ locked with connState := .lost }.rxCount ≠ 0 ∧ { locked with connState := .lost }.connState ≠ .locked) := by decide

/-- One transition of each kind. -/
theorem witness_ConnectionTransitions :
    (Inv receiving ∧ ∃ t, exec .rxDone receiving = .next t ∧ t.connState ≠ receiving.connState) ∧
    (Inv lastHop ∧ ∃ t, exec .tick lastHop = .next t ∧ t.connState ≠ lastHop.connState) ∧
    (Inv locked ∧ ∃ t, exec .reset locked = .next t ∧ t.connState ≠ locked.connState) ∧
    (Inv stopped ∧ ∃ t, exec .start stopped = .next t ∧ t.connState ≠ stopped.connState) :=
  ⟨⟨inv_receiving, _, rfl, by decide +kernel⟩, ⟨inv_lastHop, _, rfl, by decide +kernel⟩, ⟨inv_locked, _, rfl, by decide⟩,
   inv_stopped, _, rfl, by decide⟩

theorem witness_LossAndRestoreAnnouncedOnTransition :
    (Inv receiving ∧ Instr.encodable .rxDone = true ∧ ∃ t, exec .rxDone receiving = .next t ∧ t.connState = .locked) ∧
    (Inv lastHop ∧ Instr.encodable .tick = true ∧ ∃ t, exec .tick lastHop = .next t ∧ t.connState = .lost) :=
  ⟨⟨inv_receiving, rfl, _, rfl, by decide +kernel⟩, ⟨inv_lastHop, rfl, _, rfl, by decide +kernel⟩⟩

/-- From a fresh `START`: 99 hop events are too few, 100 are enough. -/
theorem witness_EmptyWindowDeclaresLostOnce :
    syncing.run = true ∧ syncing.rxCount = 0 ∧ syncing.pktSeen = false ∧ syncing.tlmPending = false ∧
    syncing.hopCounter.toNat ≤ 99 ∧ syncing.channelIndex.toNat < 47 ∧ syncing.connState ≠ .lost ∧
    99 < 100 - syncing.hopCounter.toNat ∧ 100 - syncing.hopCounter.toNat ≤ 100 := by decide

/-- The status byte at 128 and at 127. -/
theorem witness_RxDoneAcceptsOrRejects :
    (receiving.run = true ∧ receiving.dir = .receivingInto ∧ (pktRead receiving 19).toNat = 128 ∧
      pktRead receiving 1 = receiving.txid0 ∧ pktRead receiving 2 = receiving.txid1) ∧
    (¬ (128 ≤ (pktRead (pktWrite 19 127 receiving) 19).toNat)) ∧ halted.run = false ∧ sending.dir ≠ .receivingInto := by
  decide +kernel

theorem witness_AcceptEffect : receiving.run = true ∧ receivingLocked.run = true := by decide
theorem witness_RejectEffect : syncing.run = true := rfl

theorem witness_ChannelRoundTrip :
    (Config.params.chMask = 0x0FFF ∧ ∀ k : Fin 8, ((Vector.replicate 8 4095 : Channels)[k]).toNat ≤ 4095) ∧
    ({ Config.params with chMask := 0x07FF }.chMask = 0x07FF ∧
      ∀ k : Fin 8, ((Vector.replicate 8 2047 : Channels)[k]).toNat ≤ 2047) := by decide

theorem witness_EncodeTlmEffect : Config.params.legal = true ∧ hubParams.legal = true := by decide
theorem witness_HubRoundTrip : (0x02 : Byte) ≠ 0x5E := by decide

theorem witness_RssiMonotoneInEachRange :
    ((0 : Byte).toNat ≤ (127 : Byte).toNat ∧ (127 : Byte).toNat ≤ 127) ∧
    (128 ≤ (128 : Byte).toNat ∧ (128 : Byte).toNat ≤ (255 : Byte).toNat) ∧
    (128 ≤ (128 : Byte).toNat ∧ (128 : Byte).toNat ≤ (145 : Byte).toNat ∧ (145 : Byte).toNat ≤ 145) ∧
    (146 ≤ (146 : Byte).toNat ∧ (146 : Byte).toNat ≤ (255 : Byte).toNat) := by decide

theorem witness_OneFramePerInterval :
    Inv receiving ∧ Instr.encodable .rxDone = true ∧
      ∃ t, exec .rxDone receiving = .next t ∧ receiving.rxCount.toNat < t.rxCount.toNat :=
  ⟨inv_receiving, rfl, _, rfl, by decide +kernel⟩

theorem witness_ConsumedBufferIsNeverValid :
    receiving.run = true ∧ receiving.dir = .receivingInto ∧ ∃ t, exec .rxDone receiving = .next t := ⟨rfl, rfl, _, rfl⟩

theorem witness_TlmLatchEffect :
    (receiving.run = true ∧ (pktRead receiving 3).toNat % 4 = 2) ∧ (syncing.run = true ∧ (pktRead syncing 3).toNat % 4 ≠ 2) := by
  decide +kernel

theorem witness_TlmOpenEffect : requested.run = true := rfl
theorem witness_HubAckEffect : hubParams.legal = true ∧ hubParams.hubTlmEn = true := by decide

theorem witness_TxDoneEffect :
    (sending.run = true ∧ sending.dir = .transmittingFrom) ∧ halted.run = false ∧ syncing.dir ≠ .transmittingFrom := by decide

theorem witness_TxTimeoutEffect : sending.run = true := rfl

/-- A request that is served, and one that waits. -/
theorem witness_OneReplyPerRequest :
    (∃ t, exec .tick requested = .next t) ∧
    (requested.run = true ∧ requested.hopTimer = 1 ∧ requested.tlmPending = true) ∧
    (∃ t, exec .tick { requested with hopTimer := 2 } = .next t ∧ t.tlmPending = true) := ⟨⟨_, rfl⟩, by decide, _, rfl, rfl⟩

theorem witness_PacketBufferOwnership :
    (Inv requested ∧ ∃ t, exec .tick requested = .next t ∧ t.pkt ≠ requested.pkt) ∧
    (Inv receiving ∧ ∃ t, exec .rxDone receiving = .next t ∧ t.pkt ≠ receiving.pkt) :=
  ⟨⟨inv_requested, _, rfl, by decide +kernel⟩, inv_receiving, _, rfl, by decide +kernel⟩

theorem witness_StartEffect : halted.run = false ∧ syncing.run = true := by decide
theorem witness_StopEffect : syncing.run = true ∧ halted.run = false := by decide

theorem witness_RegWrEffect :
    (halted.run = false ∧ syncing.run = true) ∧ (0xFFFF : BitVec 16).toNat % 2 = 1 ∧ (0xFFFE : BitVec 16).toNat % 2 = 0 ∧
    3 ≤ (3 : BitVec 6).toNat := by decide

/-- The ends of the ranges of reserved numbers. -/
theorem witness_RegRdTable :
    (13 ≤ (13 : BitVec 6).toNat ∧ (13 : BitVec 6).toNat ≤ 15) ∧ (13 ≤ (15 : BitVec 6).toNat ∧ (15 : BitVec 6).toNat ≤ 15) ∧
    24 ≤ (24 : BitVec 6).toNat ∧ 24 ≤ (63 : BitVec 6).toNat := by decide

theorem witness_HtWrEffect :
    (halted.run = false ∧ (46 : BitVec 6).toNat < 47) ∧ (syncing.run = true ∨ 47 ≤ (0 : BitVec 6).toNat) ∧
    47 ≤ (47 : BitVec 6).toNat := by decide

theorem witness_FunctionPortIsPure :
    (∃ f id0 id1, Instr.validate frameP1 1 2 = .validate f id0 id1) ∧ (∃ f, Instr.decodeCh frameP1 = .decodeCh f) ∧
    (∃ raw, Instr.decodeRssi 150 = .decodeRssi raw) ∧
    (∃ tid a0 a1 rs id0 id1 nIn d,
      Instr.encodeTlm 1 2 3 4 5 6 7 (Vector.replicate 10 0) = .encodeTlm tid a0 a1 rs id0 id1 nIn d) ∧
    (∃ sid val, Instr.hubStuff 2 0x1234 = .hubStuff sid val) :=
  ⟨⟨_, _, _, rfl⟩, ⟨_, rfl⟩, ⟨_, rfl⟩, ⟨_, _, _, _, _, _, _, _, rfl⟩, _, _, rfl⟩

theorem witness_RunningConfigurationIsFrozen :
    syncing.run = true ∧ ∃ t, exec (.regWr 1 0x1234) syncing = .next t := ⟨rfl, _, rfl⟩

theorem witness_UnexpectedEventsAreDropped :
    halted.run = false ∧ sending.dir ≠ .receivingInto ∧ syncing.dir ≠ .transmittingFrom := by decide

theorem witness_HaltedMicroOperationsDoNothing : halted.run = false ∧ Instr.encodable .hop = false := by decide

theorem witness_EachRegisterHasItsWriters :
    (∃ t, exec .tick locked = .next t ∧ t.channelIndex ≠ locked.channelIndex) ∧
    (∃ t, exec .rxDone receiving = .next t ∧ t.rssi ≠ receiving.rssi) ∧
    (∃ t, exec (.regRd 11) syncing = .next t ∧ t.hrdata ≠ syncing.hrdata) :=
  ⟨⟨_, rfl, by decide +kernel⟩, ⟨_, rfl, by decide +kernel⟩, _, rfl, by decide⟩

theorem witness_ResetEffect : (⟨true, 0x2000001, 0b11111, 3, {}⟩ : Sample).rst = true := rfl
theorem witness_OverflowEffect : halted.run = false ∧ syncing.run = true ∧ locked.run = true ∧ locked.dir = .idle := by decide
theorem witness_OvfRecoverEffect : (locked.run = true ∧ locked.dir = .idle) ∧ sending.dir ≠ .idle := by decide

theorem witness_ErrorFlagsAreSticky :
    (∃ t, exec .tick { locked with err := 0b100001 } = .next t) ∧ (0b100001 : BitVec 6).getLsbD 5 = true ∧
    (0b100001 : BitVec 6).getLsbD 0 = true := ⟨⟨_, rfl⟩, rfl, rfl⟩

theorem witness_FrameBeforeExpiringTick :
    ({ receiving with hopTimer := 1 }.withSample { ev := 0b00101 }).script = .sample { ev := 0b00101 } :: [] ∧
    (receiving.run = true ∧ receiving.dir = .receivingInto ∧ pktValid Config.params receiving = true ∧
      receiving.connState ≠ .locked) ∧
    (receivingLocked.run = true ∧ receivingLocked.dir = .receivingInto ∧ receivingLocked.hopTimer = 1 ∧
      pktValid Config.params receivingLocked = true ∧ receivingLocked.connState = .locked) := by decide +kernel

theorem witness_TxDoneBeforeExpiringTick :
    (sending.withSample { ev := 0b00011 }).script = .sample { ev := 0b00011 } :: [] ∧
    sending.run = true ∧ sending.dir = .transmittingFrom ∧ sending.hopTimer = 1 := by decide

theorem witness_HostBeforeEvents :
    ((halted.withSample { hw := 0x2000001, ev := 0b00001 }).script = .sample { hw := 0x2000001, ev := 0b00001 } :: [] ∧
      halted.run = false) ∧
    ((receiving.withSample { hw := 0x2000000, ev := 0b00100 }).script = .sample { hw := 0x2000000, ev := 0b00100 } :: [] ∧
      receiving.run = true) ∧
    decodeHost (0x2000000 : BitVec 26) = .ok .stop := by decide

end Sys2Proof.Tests
end

section
/-! The invariants of 10_state.md R45 hold after reset and after every step (O7, O8, O9), and an error flag once set stays set
until `START` or `RESET` (O55). One lemma per operation says what the operation keeps; the theorems about `exec` and `step` collect
them. -/

namespace Sys2Proof.Machine

variable {s t : State}

/-! ### What the invariants bound and exclude -/

/-- R45 (c) for `rxCount`: the 99 closed intervals of the window and the open one hold a frame each. -/
theorem Inv.rxCount_le (h : Inv s) : s.rxCount.toNat ≤ 100 := by
  have hseen := Bool.toNat_le s.pktSeen
  have hhops := h.hops
  have hcounted := h.counted
  omega

/-- R45 (g) read backwards: while the buffer is lent to the radio, nothing has been accepted in the interval. -/
theorem Inv.pktSeen_of_busy (h : Inv s) (hd : s.dir ≠ .idle) : s.pktSeen = false :=
  Bool.eq_false_iff.mpr fun hp => hd (h.consumed hp)

/-- A guarded operation keeps what it keeps while running (40_hop_scheduler.md R120). -/
theorem whenRunning_keeps {P : State → Prop} {f : State → State} (hs : P s) (hf : s.run = true → P (f s)) :
    P (whenRunning f s) := by
  cases hr : s.run with
  | false => rwa [whenRunning_of_halted s hr]
  | true => rw [whenRunning_of_run s hr]; exact hf hr

/-! ### Reset and start -/

/-- The connection registers have the values that `START` and `RESET` give them (45_system_ops.md R221, R227). -/
structure Fresh (s : State) : Prop where
  index : s.channelIndex = 0
  hops : s.hopCounter = 0
  quality : s.linkQuality = 0
  count : s.rxCount = 0
  timer : s.hopTimer = 500
  unseen : s.pktSeen = false
  unrequested : s.tlmPending = false

/-- Fresh registers meet every clause about them; what is left is the halted direction and the memories. -/
theorem Fresh.inv (f : Fresh s) (halted : s.run = false → s.dir = .idle) (hpkt : Memory.wf pktFill 20 s.pkt = true)
    (hht : Memory.wf htFill (4 * Config.params.nHop) s.ht = true) : Inv s where
  index := by simp [f.index]
  hops := by simp [f.hops]
  quality := by simp [f.quality]
  counted := by simp [f.count]
  timer := by simp [f.timer]
  locked := by simp [f.count]
  request := by simp [f.unrequested]
  seen := by simp [f.unseen]
  consumed := by simp [f.unseen]
  halted := halted
  pktWf := hpkt
  htWf := hht

/-- Settles O8: after reset the registers are fresh, the direction is idle and no byte is listed in either memory. -/
theorem resetMeetsInvariants : Obligations.ResetMeetsInvariants :=
  Fresh.inv ⟨rfl, rfl, rfl, rfl, rfl, rfl, rfl⟩ (fun _ => rfl) rfl rfl

theorem resetBlock_keeps_inv (h : Inv s) : Inv (resetBlock s) :=
  Fresh.inv ⟨rfl, rfl, rfl, rfl, rfl, rfl, rfl⟩ (fun _ => rfl) rfl h.htWf

theorem startBlock_keeps_inv (h : Inv s) : Inv (startBlock s) :=
  Fresh.inv ⟨rfl, rfl, rfl, rfl, rfl, rfl, rfl⟩ nofun (pktWrite_wf (i := statusPos) (v := 0) h.pktWf (by decide)) h.htWf

/-! ### Host operations -/

theorem stopBlock_keeps_inv (h : Inv s) : Inv (stopBlock s) :=
  { h with consumed := fun _ => rfl, halted := fun _ => rfl }

theorem start_keeps_inv (h : Inv s) : Inv (if s.run then ignoreEvent s else startBlock s) := by
  split_ifs
  · exact h
  · exact startBlock_keeps_inv h

theorem ctrlWrite_keeps_inv (b : Bool) (h : Inv s) : Inv (ctrlWrite b s) := by
  unfold ctrlWrite
  split_ifs
  · exact startBlock_keeps_inv h
  · exact stopBlock_keeps_inv h
  · exact h

theorem regWrite_keeps_inv (n : BitVec 6) (d : BitVec 16) (h : Inv s) : Inv (regWrite n d s) := by
  unfold regWrite
  split_ifs
  · exact ctrlWrite_keeps_inv _ h
  · exact { h with }
  · exact { h with }
  · exact h

/-- R225's bound on the entry keeps the key inside the 188 bytes of `HT`. -/
theorem htTableWrite_keeps_inv (i : BitVec 6) (j : BitVec 2) (d : BitVec 16) (h : Inv s) :
    Inv (htTableWrite Config.params i j d s) := by
  unfold htTableWrite
  split_ifs with hw
  · have hi := hw.2
    have hj := j.isLt
    exact { h with htWf := htWrite_wf h.htWf (by unfold htKey; omega) }
  · exact h

/-! ### The radio's events -/

/-- Re-arming a busy block: nothing has been accepted in its interval, and it is running. -/
theorem armReceive_keeps_inv (h : Inv s) (hd : s.dir ≠ .idle) : Inv (armReceive s) :=
  { h with
    consumed := fun hp => absurd (h.consumed hp) hd
    halted := fun hr => absurd (h.halted hr) hd }

theorem ovfRecover_keeps_inv (h : Inv s) : Inv (ovfRecover s) := by
  have hidle : Inv (emitRadio .setIdle s) := { h with }
  unfold ovfRecover
  split_ifs with hd
  · exact hidle
  · exact armReceive_keeps_inv hidle hd

theorem raise_keeps_inv (k : ErrorKind) (h : Inv s) : Inv (raise k s) := { h with }

theorem txDone_keeps_inv (h : Inv s) :
    Inv (if s.run = true ∧ s.dir = .transmittingFrom then armReceive s else ignoreEvent s) := by
  split_ifs with hd
  · exact armReceive_keeps_inv h (by simp [hd.2])
  · exact h

/-- `ACCEPT` runs on a frame that was being received, so it is the first of its interval and the count stays in step. -/
theorem accept_keeps_inv (h : Inv s) (hd : s.dir ≠ .idle) : Inv (accept Config.params s) := by
  have hhops := h.hops
  have hcounted : s.rxCount.toNat ≤ s.hopCounter.toNat := by simpa [h.pktSeen_of_busy hd] using h.counted
  have hcount : (s.rxCount + 1).toNat = s.rxCount.toNat + 1 := BitVec.toNat_add_of_lt (by simp; omega)
  rw [accept_rec]
  exact
    { h with
      counted := by
        simp only [hcount, Bool.toNat_true]
        omega
      timer := by
        simp only
        split_ifs
        · exact h.timer
        · decide
      locked := fun _ => rfl
      request := fun _ => ⟨rfl, rfl⟩
      seen := fun _ (hz : s.rxCount + 1 = 0) => by
        rw [hz] at hcount
        exact absurd hcount (Nat.zero_ne_add_one _)
      consumed := fun _ => rfl
      halted := fun _ => rfl
      pktWf := pktWrite_wf (i := statusPos) (v := 0) h.pktWf (by decide) }

theorem reject_keeps_inv (h : Inv s) : Inv (reject s) := { h with }

theorem rxDone_keeps_inv (h : Inv s) : Inv (rxDone Config.params s) := by
  unfold rxDone
  split_ifs with hr hv
  · exact accept_keeps_inv h (by simp [hr.2])
  · exact reject_keeps_inv h
  · exact h

/-! ### The hop scheduler -/

theorem hopInterval_bounds (c : ConnState) : 1 ≤ (hopInterval c).toNat ∧ (hopInterval c).toNat ≤ 500 := by
  cases c <;> decide

/-- `HOP` reloads the timer whatever it held. -/
theorem hop_hopTimer (v : BitVec 9) : hop Config.params { s with hopTimer := v } = hop Config.params s := by
  rw [hop_rec, hop_rec]
  rfl

/-- `HOP` closes an interval: an accepted frame moves from `pktSeen` into the interval count, and the hundredth interval closes
the window with at most 100 frames in it. -/
theorem hop_keeps_inv (h : Inv s) (hrun : s.run = true) : Inv (hop Config.params s) := by
  have hhops := h.hops
  have hcounted := h.counted
  have hle := h.rxCount_le
  have hseen := Bool.toNat_le s.pktSeen
  have hnext : (s.hopCounter + 1).toNat = s.hopCounter.toNat + 1 := BitVec.toNat_add_of_lt (by simp; omega)
  have hlast : s.hopCounter + 1 = 100 ↔ s.hopCounter.toNat = 99 := by
    rw [← BitVec.toNat_inj, hnext]; simp
  rw [hop_rec]
  exact
    { h with
      index := by
        simp only [nextIndex_toNat Config.params_legal]
        exact Nat.mod_lt _ (by decide)
      hops := by
        simp only [hlast]
        split_ifs
        · decide
        · omega
      quality := by
        simp only [hlast]
        split_ifs
        · rw [BitVec.toNat_setWidth_of_le (by decide)]
          exact hle
        · exact h.quality
      counted := by
        simp only [hlast]
        split_ifs
        · simp
        · simp only [hnext, Bool.toNat_false]
          omega
      timer := hopInterval_bounds _
      locked := by
        simp only [hlast]
        split_ifs
        · simp
        · simp
        · exact h.locked
      request := nofun
      seen := nofun
      consumed := nofun
      halted := fun hr => by simp [hrun] at hr
      pktWf := by
        simp only
        split_ifs
        · exact wf_writeAll h.pktWf (by simp)
        · exact h.pktWf }

/-- A `TICK` counts down above 1, and hops at 1. -/
theorem tick_keeps_inv (h : Inv s) (hrun : s.run = true) : Inv (tick Config.params s) := by
  rw [tick_eq]
  split_ifs with h1
  · rw [hop_hopTimer]; exact hop_keeps_inv h hrun
  · obtain ⟨hlo, hhi⟩ := h.timer
    have hne : s.hopTimer.toNat ≠ 1 := fun he => h1 (BitVec.eq_of_toNat_eq he)
    have hpred : (s.hopTimer - 1).toNat = s.hopTimer.toNat - 1 := BitVec.toNat_sub_of_le hlo
    exact { h with timer := by simp only [hpred]; omega }

/-! ### Steps -/

/-- Every operation that has an encoding keeps the invariants. -/
theorem exec_keeps_inv {i : Instr} (hi : i.encodable = true) (h : Inv s) (hx : exec i s = .next t) : Inv t := by
  cases i <;> cases hx
  case reset => exact resetBlock_keeps_inv h
  case ovfRx => exact whenRunning_keeps h fun _ => ovfRecover_keeps_inv (raise_keeps_inv _ h)
  case ovfTx => exact whenRunning_keeps h fun _ => ovfRecover_keeps_inv (raise_keeps_inv _ h)
  case ovfBoth => exact whenRunning_keeps h fun _ => ovfRecover_keeps_inv (raise_keeps_inv _ (raise_keeps_inv _ h))
  case rxDone => exact rxDone_keeps_inv h
  case txDone => exact txDone_keeps_inv h
  case tick => exact whenRunning_keeps h (tick_keeps_inv h)
  case regWr n d => exact regWrite_keeps_inv n d h
  case htWr i j d => exact htTableWrite_keeps_inv i j d h
  case start => exact start_keeps_inv h
  case stop => exact whenRunning_keeps h fun _ => stopBlock_keeps_inv h
  case regRd | validate | decodeCh | decodeRssi | encodeTlm | hubStuff => exact { h with }
  all_goals cases hi

/-- What the environment does between two operations, and the start of an operation, keep the invariants. -/
theorem fetch_keeps_inv (h : Inv s) : Inv (fetch s).2 := by
  cases hs : s.script with
  | nil => rw [fetch_nil hs]; exact { h with }
  | cons m tail =>
    cases m with
    | dma f => rw [fetch_dma hs]; exact { h with pktWf := storeFrame_wf h.pktWf }
    | inputs d => rw [fetch_inputs hs]; exact { h with }
    | sample smp =>
      cases hd : decodeSample smp with
      | ok x => rw [fetch_sample_ok hs hd]; exact { h with }
      | error r => rw [fetch_sample_error hs hd]; exact { h with }

theorem fetch_encodable {i : Instr} (hf : (fetch s).1 = some i) : i.encodable = true := by
  cases hs : s.script with
  | nil => rw [fetch_nil hs] at hf; cases hf
  | cons m tail =>
    cases m with
    | dma f => rw [fetch_dma hs] at hf; cases hf
    | inputs d => rw [fetch_inputs hs] at hf; cases hf
    | sample smp =>
      cases hd : decodeSample smp with
      | ok x => rw [fetch_sample_ok hs hd] at hf; cases hf; exact decodeSample_encodable hd
      | error r => rw [fetch_sample_error hs hd] at hf; cases hf

/-- Settles O7: what is fetched keeps the invariants, and so does the encodable operation that runs on it. -/
theorem stepKeepsInvariants : Obligations.StepKeepsInvariants := by
  intro s t h hstep
  have hinv := fetch_keeps_inv h
  cases hi : (fetch s).1 with
  | none =>
    rw [step_of_fetch_none (Prod.ext hi rfl)] at hstep
    cases hstep
    exact hinv
  | some i =>
    rw [step_of_fetch_some (Prod.ext hi rfl)] at hstep
    exact exec_keeps_inv (fetch_encodable hi) hinv hstep

/-- Settles O9: the index is below 47, so its four keys are below 4 * 47. -/
theorem invariantBoundsCountAndIndex : Obligations.InvariantBoundsCountAndIndex := by
  intro s h
  refine ⟨h.rxCount_le, fun j hj => ?_⟩
  have hindex : s.channelIndex.toNat < 47 := h.index
  unfold htKey
  omega

/-! ### Error flags -/

/-- Every error flag that `s` has, `t` has (10_state.md R37). -/
def ErrKept (s t : State) : Prop := ∀ k, s.err.getLsbD k = true → t.err.getLsbD k = true

theorem ErrKept.refl (s : State) : ErrKept s s := fun _ hk => hk

theorem ErrKept.of_eq (h : t.err = s.err) : ErrKept s t := fun _ hk => h ▸ hk

theorem ErrKept.of_or {m : BitVec 6} (h : t.err = s.err ||| m) : ErrKept s t := fun k hk => by
  rw [h, BitVec.getLsbD_or, hk, Bool.true_or]

theorem ErrKept.trans {u : State} (h : ErrKept s t) (h' : ErrKept t u) : ErrKept s u := fun k hk => h' k (h k hk)

theorem ErrKept.guarded {f : State → State} (hf : ErrKept s (f s)) : ErrKept s (whenRunning f s) :=
  whenRunning_keeps (.refl s) fun _ => hf

theorem raise_errKept (k : ErrorKind) : ErrKept s (raise k s) := .of_or rfl

theorem missAccount_errKept : ErrKept s (missAccount s) := .of_or (by rw [missAccount_rec])

theorem windowEval_errKept : ErrKept s (windowEval s) := .of_or (by rw [windowEval_rec])

theorem ovfRecover_err : (ovfRecover s).err = s.err := by rw [ovfRecover_rec]

theorem hop_errKept : ErrKept s (hop Config.params s) :=
  .of_or (by rw [hop_rec, BitVec.or_assoc, BitVec.or_assoc])

theorem tick_errKept : ErrKept s (tick Config.params s) := by
  rw [tick_eq]
  split_ifs
  · rw [hop_hopTimer]; exact hop_errKept
  · exact .of_eq rfl

theorem accept_err : (accept Config.params s).err = s.err := by rw [accept_rec]

theorem reject_errKept : ErrKept s (reject s) := .of_or (by rw [reject_rec])

theorem rxDone_errKept : ErrKept s (rxDone Config.params s) := by
  unfold rxDone
  split_ifs
  · exact .of_eq accept_err
  · exact reject_errKept
  · exact .refl s

theorem tlmLatch_err : (tlmLatch s).err = s.err := by
  rw [tlmLatch_eq]
  split_ifs <;> rfl

theorem lockOnFrame_err : (lockOnFrame Config.params s).err = s.err := by
  rw [lockOnFrame_eq s Config.params_rephaseTicks]
  split_ifs <;> rfl

theorem tlmOpen_err : (tlmOpen Config.params s).err = s.err := by
  rw [tlmOpen_eq s Config.params_hubTlmEn]

theorem txDone_err :
    (if s.run = true ∧ s.dir = .transmittingFrom then armReceive s else ignoreEvent s).err = s.err := by
  split_ifs <;> rfl

/-- A register write other than one of `CTRL`, which may be `START`, leaves `ERR` alone. -/
theorem regWrite_err {n : BitVec 6} (d : BitVec 16) (hn : n ≠ 0) : (regWrite n d s).err = s.err := by
  rw [regWrite, if_neg hn]
  split_ifs <;> rfl

theorem htTableWrite_err (i : BitVec 6) (j : BitVec 2) (d : BitVec 16) :
    (htTableWrite Config.params i j d s).err = s.err := by
  unfold htTableWrite
  split_ifs <;> rfl

/-- Settles O55: operation by operation, `ERR` is left alone or has bits added by `raise`. -/
theorem errorFlagsAreSticky : Obligations.ErrorFlagsAreSticky := by
  intro i s t hx hstart hreset hctrl k _
  refine (?_ : ErrKept s t) k
  cases i <;> cases hx
  case reset => exact absurd rfl hreset
  case start => exact absurd rfl hstart
  case ovfRx => exact .guarded ((raise_errKept _).trans (.of_eq ovfRecover_err))
  case ovfTx => exact .guarded ((raise_errKept _).trans (.of_eq ovfRecover_err))
  case ovfBoth => exact .guarded (((raise_errKept _).trans (raise_errKept _)).trans (.of_eq ovfRecover_err))
  case rxDone => exact rxDone_errKept
  case txDone => exact .of_eq txDone_err
  case tick => exact .guarded tick_errKept
  case regWr n d => exact .of_eq (regWrite_err d fun hn => hctrl d (by rw [hn]))
  case htWr i j d => exact .of_eq (htTableWrite_err i j d)
  case stop => exact .guarded (.of_eq rfl)
  case hop => exact .guarded hop_errKept
  case txTimeout => exact .guarded (raise_errKept _)
  case advance => exact .guarded (.of_eq rfl)
  case missAccount => exact .guarded missAccount_errKept
  case windowEval => exact .guarded windowEval_errKept
  case tlmOpen => exact .guarded (.of_eq tlmOpen_err)
  case accept => exact .guarded (.of_eq accept_err)
  case reject => exact .guarded reject_errKept
  case lockOnFrame => exact .guarded (.of_eq lockOnFrame_err)
  case tlmLatch => exact .guarded (.of_eq tlmLatch_err)
  case ovfRecover => exact .guarded (.of_eq ovfRecover_err)
  case regRd | validate | decodeCh | decodeRssi | encodeTlm | hubStuff | nopEvent => exact .of_eq rfl

end Sys2Proof.Machine
end

section
/-! The memories of 20_memory.md: who writes `PKT` (O40), and that a running block's hop table, identity and frequency offset are
frozen (O49). Both turn on what an operation can still write while the block runs. -/

namespace Sys2Proof.Machine

variable {s t : State}

/-! ### Host writes to a running block -/

/-- Of the register writes, a running block obeys only `STOP` (45_system_ops.md R223). -/
theorem regWrite_of_run (hrun : s.run = true) (n : BitVec 6) (d : BitVec 16) :
    regWrite n d s = if n = 0 ∧ d.getLsbD 0 = false then stopBlock s else s := by
  simp only [regWrite, ctrlWrite, hrun, Bool.true_eq_false, and_false, and_true, if_false, ite_and]

/-- A running block ignores writes of the hop table (45_system_ops.md R225). -/
theorem htTableWrite_of_run (hrun : s.run = true) (i : BitVec 6) (j : BitVec 2) (d : BitVec 16) :
    htTableWrite Config.params i j d s = s :=
  if_neg fun hw => by simp [hrun] at hw

/-! ### The packet buffer -/

/-- A halted block owns the buffer: its `dir` is `Idle` (10_state.md R45 (h)). -/
theorem Inv.pktOwner_of_halted (h : Inv s) (hrun : s.run = false) : pktOwner s.dir = .block := by
  rw [h.halted hrun]; rfl

/-- While a reply waits for its hop event the block owns the buffer: the frame that asked for it has been consumed
(10_state.md R45 (f), (g)). -/
theorem Inv.pktOwner_of_request (h : Inv s) (hreq : s.tlmPending = true) : pktOwner s.dir = .block := by
  rw [h.consumed (h.request hreq).1]; rfl

theorem whenRunning_pkt {f : State → State} (hf : (f s).pkt = s.pkt) : (whenRunning f s).pkt = s.pkt :=
  whenRunning_keeps (P := fun t => t.pkt = s.pkt) rfl fun _ => hf

theorem ovfRecover_pkt : (ovfRecover s).pkt = s.pkt := by rw [ovfRecover_rec]

/-- `HOP` writes the buffer only through `TLM_OPEN`. -/
theorem hop_pkt_of_unrequested (hreq : s.tlmPending = false) : (hop Config.params s).pkt = s.pkt := by
  rw [hop_rec]; simp [hreq]

theorem tick_pkt_of_unrequested (hreq : s.tlmPending = false) : (tick Config.params s).pkt = s.pkt := by
  rw [tick_eq]
  split_ifs
  · exact hop_pkt_of_unrequested hreq
  · rfl

/-- While the block runs and no reply is requested, only a reception and `RESET` write the buffer. -/
theorem exec_pkt_of_unrequested {i : Instr} (hi : i.encodable = true) (hrun : s.run = true) (hreq : s.tlmPending = false)
    (hrx : i ≠ .rxDone) (hreset : i ≠ .reset) (hx : exec i s = .next t) : t.pkt = s.pkt := by
  cases i <;> cases hx
  case reset => exact absurd rfl hreset
  case rxDone => exact absurd rfl hrx
  case ovfRx | ovfTx | ovfBoth => exact whenRunning_pkt ovfRecover_pkt
  case txDone => split_ifs <;> rfl
  case tick => exact whenRunning_pkt (tick_pkt_of_unrequested hreq)
  case regWr n d => rw [regWrite_of_run hrun]; split_ifs <;> rfl
  case htWr i j d => rw [htTableWrite_of_run hrun]
  case start => rw [if_pos hrun]; rfl
  case stop => exact whenRunning_pkt rfl
  case regRd | validate | decodeCh | decodeRssi | encodeTlm | hubStuff => rfl
  all_goals cases hi

/-- Settles O40: a halted block owns the buffer, and so does one with a request; in any other state only `RX_DONE` and `RESET`
write it. -/
theorem packetBufferOwnership : Obligations.PacketBufferOwnership := by
  intro i s t h hi hx hne
  cases hrun : s.run with
  | false => exact .inl (h.pktOwner_of_halted hrun)
  | true =>
    cases hreq : s.tlmPending with
    | true => exact .inl (h.pktOwner_of_request hreq)
    | false =>
      refine .inr (by_contra fun hother => ?_)
      obtain ⟨hrx, hreset⟩ := not_or.mp hother
      exact hne (exec_pkt_of_unrequested hi hrun hreq hrx hreset hx)

/-! ### The configuration -/

/-- What the host configures while the block is halted is the same in both states: the hop table (20_memory.md R75), the identity
and the frequency offset (10_state.md R39, R40). -/
structure ConfigKept (s t : State) : Prop where
  table : t.ht = s.ht
  id0 : t.txid0 = s.txid0
  id1 : t.txid1 = s.txid1
  offset : t.freqOffset = s.freqOffset

theorem ConfigKept.refl (s : State) : ConfigKept s s := ⟨rfl, rfl, rfl, rfl⟩

theorem ConfigKept.guarded {f : State → State} (hf : ConfigKept s (f s)) : ConfigKept s (whenRunning f s) :=
  whenRunning_keeps (.refl s) fun _ => hf

theorem stopBlock_configKept : ConfigKept s (stopBlock s) := ⟨rfl, rfl, rfl, rfl⟩

theorem armReceive_configKept : ConfigKept s (armReceive s) := ⟨rfl, rfl, rfl, rfl⟩

theorem reject_configKept : ConfigKept s (reject s) := ⟨rfl, rfl, rfl, rfl⟩

theorem advance_configKept : ConfigKept s (advance Config.params s) := ⟨rfl, rfl, rfl, rfl⟩

theorem ConfigKept.raise (h : ConfigKept s t) (k : ErrorKind) : ConfigKept s (raise k t) :=
  ⟨h.table, h.id0, h.id1, h.offset⟩

theorem ConfigKept.ovfRecover (h : ConfigKept s t) : ConfigKept s (ovfRecover t) := by
  rw [ovfRecover_rec]; exact ⟨h.table, h.id0, h.id1, h.offset⟩

theorem missAccount_configKept : ConfigKept s (missAccount s) := by
  rw [missAccount_rec]; exact ⟨rfl, rfl, rfl, rfl⟩

theorem windowEval_configKept : ConfigKept s (windowEval s) := by
  rw [windowEval_rec]; exact ⟨rfl, rfl, rfl, rfl⟩

theorem hop_configKept : ConfigKept s (hop Config.params s) := by
  rw [hop_rec]; exact ⟨rfl, rfl, rfl, rfl⟩

theorem accept_configKept : ConfigKept s (accept Config.params s) := by
  rw [accept_rec]; exact ⟨rfl, rfl, rfl, rfl⟩

theorem tlmOpen_configKept : ConfigKept s (tlmOpen Config.params s) := by
  rw [tlmOpen_eq s Config.params_hubTlmEn]; exact ⟨rfl, rfl, rfl, rfl⟩

theorem tlmLatch_configKept : ConfigKept s (tlmLatch s) := by
  rw [tlmLatch_eq]; split_ifs <;> exact ⟨rfl, rfl, rfl, rfl⟩

theorem lockOnFrame_configKept : ConfigKept s (lockOnFrame Config.params s) := by
  rw [lockOnFrame_eq s Config.params_rephaseTicks]; split_ifs <;> exact ⟨rfl, rfl, rfl, rfl⟩

theorem tick_configKept : ConfigKept s (tick Config.params s) := by
  rw [tick_eq]
  split_ifs
  · rw [hop_hopTimer]; exact hop_configKept
  · exact ⟨rfl, rfl, rfl, rfl⟩

theorem rxDone_configKept : ConfigKept s (rxDone Config.params s) := by
  unfold rxDone
  split_ifs
  · exact accept_configKept
  · exact reject_configKept
  · exact .refl s

theorem txDone_configKept :
    ConfigKept s (if s.run = true ∧ s.dir = .transmittingFrom then armReceive s else ignoreEvent s) := by
  split_ifs
  · exact armReceive_configKept
  · exact .refl s

theorem regWrite_configKept (hrun : s.run = true) (n : BitVec 6) (d : BitVec 16) : ConfigKept s (regWrite n d s) := by
  rw [regWrite_of_run hrun]
  split_ifs
  · exact stopBlock_configKept
  · exact .refl s

/-- No operation of a running block but `RESET` touches the configuration. -/
theorem exec_configKept {i : Instr} (hrun : s.run = true) (hreset : i ≠ .reset) (hx : exec i s = .next t) :
    ConfigKept s t := by
  cases i <;> cases hx
  case reset => exact absurd rfl hreset
  case ovfRx | ovfTx => exact .guarded ((ConfigKept.refl s).raise _).ovfRecover
  case ovfBoth => exact .guarded (((ConfigKept.refl s).raise _).raise _).ovfRecover
  case rxDone => exact rxDone_configKept
  case txDone => exact txDone_configKept
  case tick => exact .guarded tick_configKept
  case regWr n d => exact regWrite_configKept hrun n d
  case htWr i j d => rw [htTableWrite_of_run hrun]; exact .refl s
  case start => rw [if_pos hrun]; exact .refl s
  case stop => exact .guarded stopBlock_configKept
  case hop => exact .guarded hop_configKept
  case txTimeout => exact .guarded ((ConfigKept.refl s).raise _)
  case advance => exact .guarded advance_configKept
  case missAccount => exact .guarded missAccount_configKept
  case windowEval => exact .guarded windowEval_configKept
  case tlmOpen => exact .guarded tlmOpen_configKept
  case accept => exact .guarded accept_configKept
  case reject => exact .guarded reject_configKept
  case lockOnFrame => exact .guarded lockOnFrame_configKept
  case tlmLatch => exact .guarded tlmLatch_configKept
  case ovfRecover => exact .guarded (ConfigKept.refl s).ovfRecover
  case regRd | validate | decodeCh | decodeRssi | encodeTlm | hubStuff | nopEvent => exact ⟨rfl, rfl, rfl, rfl⟩

/-- Settles O49: `RESET` leaves the hop table alone, and any other operation the whole configuration. -/
theorem runningConfigurationIsFrozen : Obligations.RunningConfigurationIsFrozen := by
  intro i s t hrun hx
  by_cases hreset : i = .reset
  · subst hreset
    cases hx
    exact ⟨rfl, fun hne => absurd rfl hne⟩
  · have hkept := exec_configKept hrun hreset hx
    exact ⟨hkept.table, fun _ => ⟨hkept.id0, hkept.id1, hkept.offset⟩⟩

end Sys2Proof.Machine
end

section
/-! The encoding of 30_encoding.md: the decoder reads every encoded operation back (O1), the words that the spec writes out
(O2, O3), a step is the decoded operation (O4), a sample is served in the order of R89 (O6), and the events an operation may
emit (O59). -/

namespace Sys2Proof

/-! ### Reading an encoded operation back -/

/-- The sample holds the operation `i` and no further one (30_encoding.md R89). -/
def HoldsOnly (i : Instr) (smp : Sample) : Prop :=
  ∃ rest r, decodeSample smp = .ok (i, rest) ∧ decodeSample rest = .error r

theorem HoldsOnly.of_host {hw : BitVec 26} {i : Instr} (h : decodeHost hw = .ok i) : HoldsOnly i { hw := hw } :=
  ⟨_, _, decodeSample_host rfl h, decodeSample_quiet _⟩

/-- A vector whose one event is `i`: no strobe is left when it has been served. -/
theorem HoldsOnly.of_event {ev : BitVec 5} {i : Instr} (h : decodeEvent ev = .ok (i, 0)) : HoldsOnly i { ev := ev } :=
  ⟨_, _, decodeSample_event rfl decodeHost_zero h, decodeSample_quiet _⟩

theorem HoldsOnly.of_fn {sel : BitVec 3} {a : FnArgs} {i : Instr} (h : decodeFn sel a = .ok i) :
    HoldsOnly i { fnSel := sel, fnArgs := a } :=
  ⟨_, _, decodeSample_fn rfl decodeHost_zero decodeEvent_zero h, decodeSample_quiet _⟩

theorem decodeHost_regRd (n : BitVec 6) (b : BitVec 2) (d : BitVec 16) :
    decodeHost (hostWord 1 n b d) = .ok (.regRd n) := by
  simp [decodeHost]

theorem decodeHost_ctrl (b : BitVec 2) (d : BitVec 16) :
    decodeHost (hostWord 2 0 b d) = if d.getLsbD 0 then .ok .start else .ok .stop := by
  simp [decodeHost]

theorem decodeHost_regWr {n : BitVec 6} (hn : n ≠ 0) (b : BitVec 2) (d : BitVec 16) :
    decodeHost (hostWord 2 n b d) = .ok (.regWr n d) := by
  simp only [decodeHost, hostCmd_hostWord, hostAddr_hostWord, hostData_hostWord, if_neg hn]
  rfl

theorem decodeHost_htWr (i : BitVec 6) (j : BitVec 2) (d : BitVec 16) :
    decodeHost (hostWord 3 i j d) = .ok (.htWr i j d) := by
  simp [decodeHost]

/-- Exactly the micro-operations have no encoding (30_encoding.md R97). -/
theorem encode_isSome (i : Instr) : (encode i).isSome = i.encodable := by
  cases i <;> rfl

/-- Port by port, the decoder reads an encoded operation back with its operands. -/
theorem holdsOnly_of_encode {i : Instr} {smp : Sample} (hwf : i.wf = true) (h : encode i = some smp) : HoldsOnly i smp := by
  cases i <;> cases h
  case reset => exact ⟨_, _, decodeSample_rst rfl, decodeSample_quiet _⟩
  case ovfRx | ovfTx | ovfBoth | rxDone | txDone | tick => exact .of_event rfl
  case regRd n => exact .of_host (decodeHost_regRd n 0 0)
  case regWr n d => exact .of_host (decodeHost_regWr (bne_iff_ne.mp hwf) 0 d)
  case htWr i j d => exact .of_host (decodeHost_htWr i j d)
  case start => exact .of_host (decodeHost_ctrl 0 1)
  case stop => exact .of_host (decodeHost_ctrl 0 0)
  case validate | decodeCh | decodeRssi | encodeTlm | hubStuff => exact .of_fn rfl

/-- Settles O1: every operation by the port on which it is encoded. -/
theorem decodeEncodeAgree : Obligations.DecodeEncodeAgree :=
  fun i => ⟨encode_isSome i, fun _ hwf h => holdsOnly_of_encode hwf h⟩

/-! ### The words that the spec writes out -/

/-- Settles O2: the function selects for all operands, every other word by decoding it. -/
theorem specWordsDecode : Obligations.SpecWordsDecode := by
  have hfn (a : FnArgs) :
      decodeFn 1 a = .ok (.validate a.f a.id0 a.id1) ∧ decodeFn 2 a = .ok (.decodeCh a.f) ∧
      decodeFn 3 a = .ok (.decodeRssi a.raw) ∧
      decodeFn 4 a = .ok (.encodeTlm a.tid a.a0 a.a1 a.rs a.id0 a.id1 a.nIn a.d) ∧
      decodeFn 5 a = .ok (.hubStuff a.sid a.val) ∧ decodeFn 0 a = .error .noFunction ∧
      decodeFn 6 a = .error (.reservedFnSel 6) ∧ decodeFn 7 a = .error (.reservedFnSel 7) :=
    ⟨rfl, rfl, rfl, rfl, rfl, rfl, rfl, rfl⟩
  unfold Obligations.SpecWordsDecode
  refine ⟨?_, ?_, ?_, ?_, ?_, ?_, ?_, ?_, ?_, ?_, ?_, ?_, ?_, hfn, ?_⟩
  all_goals decide

namespace Machine

variable {s t : State}

/-- Joining puts the argument of `TUNE` together from bit 0 upwards (30_encoding.md R92). -/
theorem rarg_tune_toNat (c f m k : Byte) :
    (RadioCmd.rarg (.tune c f m k)).toNat = k.toNat * 2 ^ 24 + m.toNat * 2 ^ 16 + f.toNat * 2 ^ 8 + c.toNat := by
  have hjoin : (RadioCmd.rarg (.tune c f m k)).toNat = ((k.toNat * 2 ^ 8 + m.toNat) * 2 ^ 8 + f.toNat) * 2 ^ 8 + c.toNat := by
    simp only [RadioCmd.rarg, toNat_append_eq]
  rw [hjoin]
  ring

/-- Settles O3: the codes by definition, the two arguments as numbers. -/
theorem radioCommandWords : Obligations.RadioCommandWords :=
  fun c f m k _ => ⟨rfl, rfl, rfl, rarg_tune_toNat c f m k, rfl, BitVec.toNat_setWidth_of_le (by decide), rfl, rfl⟩

/-! ### What is left of a sample -/

/-- The first operation of a sample is the one the decoder answers; the others are those of what is left. -/
theorem decodeSample_of_sampleOps_cons {smp : Sample} {i : Instr} {ops : List Instr} (h : sampleOps smp = i :: ops) :
    ∃ rest, decodeSample smp = .ok (i, rest) ∧ sampleOps rest = ops := by
  rw [sampleOps_eq] at h
  cases hd : decodeSample smp with
  | ok x =>
    rw [hd] at h
    obtain ⟨rfl, rfl⟩ := List.cons.inj h
    exact ⟨x.2, rfl, rfl⟩
  | error r => rw [hd] at h; cases h

/-- A sample goes back on the script as long as it holds an operation. -/
theorem putBack_eq (smp : Sample) (tail : List Stimulus) :
    putBack smp tail = if (sampleOps smp).isEmpty then tail else .sample smp :: tail := by
  rw [sampleOps_eq]
  cases hd : decodeSample smp with
  | ok x => rw [putBack_ok hd]; rfl
  | error r => rw [putBack_error hd]; rfl

/-! ### A step -/

/-- The 20 bytes of a reception are the whole of `PKT`; keys beyond them are not written (20_memory.md R71). -/
theorem pktRead_storeFrame_of_le (f : Frame) {a : Nat} (ha : 20 ≤ a) : pktRead (storeFrame f s) a = pktRead s a := by
  rw [pktRead_storeFrame, dif_neg (by omega)]

/-- Settles O4: the five cases of `fetch`. -/
theorem stepRunsTheDecodedOperation : Obligations.StepRunsTheDecodedOperation := by
  intro s
  refine ⟨fun smp tail i rest hs hd => ?_, fun smp tail r hs hd => ?_, fun f tail hs => ?_, fun d tail hs => ?_, fun hs => ?_⟩
  · rw [step_of_fetch_some (fetch_sample_ok hs hd), putBack_eq]; rfl
  · exact step_of_fetch_none (fetch_sample_error hs hd)
  · exact ⟨_, step_of_fetch_none (fetch_dma hs), pktFrame_storeFrame _ f, fun _ ha => pktRead_storeFrame_of_le f ha, rfl⟩
  · exact step_of_fetch_none (fetch_inputs hs)
  · exact step_of_fetch_none (fetch_nil hs)

/-! ### A sample, step by step -/

/-- No meaning faults or refuses (70_reset_and_hazards.md R287). -/
theorem exec_total (i : Instr) (s : State) : ∃ t, exec i s = .next t := by
  cases i <;> exact ⟨_, rfl⟩

/-- An operation leaves the script alone. -/
theorem exec_script_eq {i : Instr} (hx : exec i s = .next t) : t.script = s.script := by
  have ht : t = { t with script := s.script } := Host.Outcome.next.inj (hx.symm.trans (exec_script hx s.script))
  rw [ht]

/-- A step serves one operation of the sample at the head of the script, as if the script were only what follows, and puts the rest
of the sample back. -/
theorem step_of_sample {smp rest : Sample} {i : Instr} {tail : List Stimulus} (hs : s.script = .sample smp :: tail)
    (hd : decodeSample smp = .ok (i, rest)) (hx : exec i (beginOp { s with script := tail }) = .next t) :
    step s = .next { t with script := putBack rest tail } := by
  rw [step_of_fetch_some (fetch_sample_ok hs hd)]
  exact exec_script hx (putBack rest tail)

theorem run_succ_of_step {n : Nat} (h : step s = .next t) : Host.Core.run core (n + 1) s = Host.Core.run core n t := by
  simp only [Host.Core.run, show core.step s = .next t from h]

theorem serveAll_cons_of_exec {i : Instr} {ops : List Instr} (hx : exec i (beginOp s) = .next t) :
    serveAll (i :: ops) s = serveAll ops t := by
  rw [serveAll, hx]

/-- Induction over the operations: while a sample is being served the script is what is left of it, put back on the tail. -/
theorem run_eq_serveAll (tail : List Stimulus) (ops : List Instr) (smp : Sample) (s : State) (hops : sampleOps smp = ops)
    (hs : s.script = putBack smp tail) : Host.Core.run core ops.length s = serveAll ops { s with script := tail } := by
  rw [putBack_eq, hops] at hs
  induction ops generalizing smp s with
  | nil =>
    have htail : s.script = tail := hs
    subst htail
    rfl
  | cons i ops ih =>
    obtain ⟨rest, hd, hrest⟩ := decodeSample_of_sampleOps_cons hops
    obtain ⟨t, hx⟩ := exec_total i (beginOp { s with script := tail })
    have htail : t.script = tail := exec_script_eq hx
    rw [List.length_cons, run_succ_of_step (step_of_sample hs hd hx), serveAll_cons_of_exec hx,
      ih rest _ hrest (by rw [putBack_eq, hrest])]
    subst htail
    rfl

/-- Settles O6, by the induction over the sample's operations. -/
theorem sampleServedInRuleOrder : Obligations.SampleServedInRuleOrder := by
  intro s smp tail hs hne
  refine run_eq_serveAll tail _ smp s rfl ?_
  rw [hs, putBack_eq, if_neg (by simpa using hne)]

/-! ### Events on `OUT` -/

/-- What an operation of this hardware may emit on `OUT` (30_encoding.md R93): no hub acknowledgement, and `Log` with the cause
codes of 60_exceptions.md R240 that have no event of their own. -/
def OutEvent.permitted : OutEvent → Bool
  | .hubAck _ => false
  | .log c => decide (c = 1 ∨ c = 2 ∨ c = 4 ∨ c = 5)
  | .updateChannels _ _ | .frameLost | .connLost | .connRestored => true

/-- The reserved codes stand for no event at all (30_encoding.md R93). -/
theorem OutEvent.ocode_ne_reserved (e : OutEvent) : e.ocode ≠ 0 ∧ e.ocode ≠ 7 := by
  cases e <;> exact ⟨by simp [ocode], by simp [ocode]⟩

theorem OutEvent.ne_hubAck_of_permitted {e : OutEvent} (h : e.permitted = true) (n : BitVec 4) : e ≠ .hubAck n := by
  rintro rfl
  cases h

theorem OutEvent.log_code_of_permitted {c : BitVec 3} (h : (OutEvent.log c).permitted = true) :
    c = 1 ∨ c = 2 ∨ c = 4 ∨ c = 5 :=
  of_decide_eq_true h

/-- From `s` to `t` events are only appended to the `OUT` list, each of them permitted. -/
def Emits (s t : State) : Prop := ∃ es, t.out = s.out ++ es ∧ ∀ e ∈ es, e.permitted = true

/-- An operation that leaves the `OUT` list alone emits nothing. -/
theorem Emits.of_eq (h : t.out = s.out) : Emits s t := ⟨[], by rw [h, List.append_nil], nofun⟩

theorem Emits.refl (s : State) : Emits s s := .of_eq rfl

theorem Emits.trans {u : State} (h : Emits s t) (h' : Emits t u) : Emits s u := by
  obtain ⟨es, hout, hes⟩ := h
  obtain ⟨es', hout', hes'⟩ := h'
  exact ⟨es ++ es', by rw [hout', hout, List.append_assoc], List.forall_mem_append.mpr ⟨hes, hes'⟩⟩

theorem Emits.guarded {f : State → State} (hf : Emits s (f s)) : Emits s (whenRunning f s) :=
  whenRunning_keeps (.refl s) fun _ => hf

theorem emitOut_emits {e : OutEvent} (he : e.permitted = true) : Emits s (emitOut e s) :=
  ⟨[e], rfl, List.forall_mem_singleton.mpr he⟩

/-- Every error kind records itself by permitted events (60_exceptions.md R240). -/
theorem raise_emits (k : ErrorKind) : Emits s (raise k s) :=
  ⟨k.events, rfl, by cases k <;> decide⟩

theorem ovfRecover_out : (ovfRecover s).out = s.out := by rw [ovfRecover_rec]

theorem missAccount_emits : Emits s (missAccount s) := by
  rw [missAccount_eq]
  split_ifs
  · exact .of_eq rfl
  · exact raise_emits .frameTimeout

theorem lockOnFrame_emits : Emits s (lockOnFrame Config.params s) := by
  rw [lockOnFrame_eq s Config.params_rephaseTicks]
  split_ifs
  · exact .refl s
  · exact emitOut_emits (e := .connRestored) rfl

theorem windowEval_emits : Emits s (windowEval s) := by
  rw [windowEval_eq]
  split_ifs
  · exact .of_eq rfl
  · exact raise_emits .connectionLost
  · exact .of_eq rfl
  · exact emitOut_emits (e := .connRestored) rfl

theorem tlmLatch_out : (tlmLatch s).out = s.out := by
  rw [tlmLatch_eq]
  split_ifs <;> rfl

theorem tlmOpen_out_params : (tlmOpen Config.params s).out = s.out := by
  rw [tlmOpen_out, if_neg (by simp)]

/-- `ACCEPT` may restore the connection, and sends the channel values (41_framer_validator.md R144). -/
theorem accept_emits : Emits s (accept Config.params s) := by
  have hlock : Emits s (lockOnFrame Config.params { setPktSeen true s with rxCount := s.rxCount + 1 }) :=
    Emits.trans (.of_eq rfl) lockOnFrame_emits
  have hvalues (u : State) : Emits u (acceptValues Config.params u) := emitOut_emits rfl
  have hend (u : State) : Emits u (setDir .idle (pktWrite statusPos 0 (tlmLatch u))) := .of_eq tlmLatch_out
  exact (hlock.trans (hvalues _)).trans (hend _)

theorem reject_emits : Emits s (reject s) := raise_emits .invalidFrame

theorem rxDone_emits : Emits s (rxDone Config.params s) := by
  unfold rxDone
  split_ifs
  · exact accept_emits
  · exact reject_emits
  · exact .refl s

theorem hopTimeout_emits : Emits s (hopTimeout s) := by
  unfold hopTimeout
  split_ifs
  · exact raise_emits .transmitTimeout
  · exact .refl s

theorem hopCount_emits : Emits s (hopCount s) := by
  unfold hopCount
  split_ifs
  · exact windowEval_emits (s := { s with hopCounter := s.hopCounter + 1 })
  · exact .of_eq rfl

theorem hopArm_out : (hopArm Config.params s).out = s.out := by rw [hopArm_rec]

/-- The lines of `HOP` in order (40_hop_scheduler.md R123). -/
theorem hop_emits : Emits s (hop Config.params s) := by
  have hmiss : Emits s (missAccount (advance Config.params (hopTimeout s))) :=
    (hopTimeout_emits.trans (.of_eq rfl)).trans missAccount_emits
  have htune (u : State) : (hopTune (hopReload u)).out = u.out := rfl
  rw [hop_eq]
  exact (hmiss.trans hopCount_emits).trans (.of_eq (hopArm_out.trans (htune _)))

theorem tick_emits : Emits s (tick Config.params s) := by
  rw [tick_eq]
  split_ifs
  · exact hop_emits (s := { s with hopTimer := 0 })
  · exact .of_eq rfl

theorem txDone_out :
    (if s.run = true ∧ s.dir = .transmittingFrom then armReceive s else ignoreEvent s).out = s.out := by
  split_ifs <;> rfl

theorem regWrite_out (n : BitVec 6) (d : BitVec 16) : (regWrite n d s).out = s.out := by
  unfold regWrite ctrlWrite
  split_ifs <;> rfl

theorem htTableWrite_out (i : BitVec 6) (j : BitVec 2) (d : BitVec 16) :
    (htTableWrite Config.params i j d s).out = s.out := by
  unfold htTableWrite
  split_ifs <;> rfl

theorem start_out : (if s.run then ignoreEvent s else startBlock s).out = s.out := by
  split_ifs <;> rfl

/-- Every operation, the micro-operations included, emits permitted events only. -/
theorem exec_emits {i : Instr} (hx : exec i s = .next t) : Emits s t := by
  cases i <;> cases hx
  case ovfRx | ovfTx => exact .guarded ((raise_emits _).trans (.of_eq ovfRecover_out))
  case ovfBoth => exact .guarded (((raise_emits _).trans (raise_emits _)).trans (.of_eq ovfRecover_out))
  case rxDone => exact rxDone_emits
  case txDone => exact .of_eq txDone_out
  case tick => exact .guarded tick_emits
  case regWr n d => exact .of_eq (regWrite_out n d)
  case htWr i j d => exact .of_eq (htTableWrite_out i j d)
  case start => exact .of_eq start_out
  case stop => exact .guarded (.of_eq rfl)
  case hop => exact .guarded hop_emits
  case txTimeout => exact .guarded (raise_emits _)
  case advance => exact .guarded (.of_eq rfl)
  case missAccount => exact .guarded missAccount_emits
  case windowEval => exact .guarded windowEval_emits
  case tlmOpen => exact .guarded (.of_eq tlmOpen_out_params)
  case accept => exact .guarded accept_emits
  case reject => exact .guarded reject_emits
  case lockOnFrame => exact .guarded lockOnFrame_emits
  case tlmLatch => exact .guarded (.of_eq tlmLatch_out)
  case ovfRecover => exact .guarded (.of_eq ovfRecover_out)
  case reset | regRd | validate | decodeCh | decodeRssi | encodeTlm | hubStuff | nopEvent => exact .of_eq rfl

/-- A hub payload is at most the ten bytes that fit in a frame (30_encoding.md R94). -/
theorem hubLength_le (p : Params) (n : BitVec 4) : (hubLength p n).toNat ≤ 10 := by
  have hmax : Config.hubMax.toNat = 10 := rfl
  unfold hubLength
  split_ifs with _ hn
  · omega
  · exact hmax.le
  · exact Nat.zero_le _

/-- Settles O59: the codes by definition, the operations by `exec_emits`, and `TLM_OPEN` by whether hub telemetry is enabled. -/
theorem outEventWords : Obligations.OutEventWords := by
  refine ⟨fun _ _ _ _ => ⟨rfl, rfl, rfl, rfl, rfl, rfl⟩, fun i s t hx => ?_, fun p s => ?_⟩
  · obtain ⟨events, hout, hperm⟩ := exec_emits hx
    refine ⟨events, hout, fun e he => ?_⟩
    obtain ⟨hzero, hseven⟩ := e.ocode_ne_reserved
    have hp := hperm e he
    exact ⟨hzero, hseven, OutEvent.ne_hubAck_of_permitted hp, fun c hc => OutEvent.log_code_of_permitted (hc ▸ hp)⟩
  · rw [tlmOpen_out]
    split_ifs
    · exact .inr ⟨_, hubLength_le p s.inputs.hubLen, rfl⟩
    · exact .inl rfl

end Machine

end Sys2Proof
end

section
/-! The hop scheduler of 40_hop_scheduler.md: how `TICK` leads to a hop event (O10, O11), the index step (O12), the whole of a hop
event (O13), who moves the grid and who writes the other registers (O14, O50), and the guard of the micro-operations (O52). -/

namespace Sys2Proof.Machine

variable {s t : State} {i : Instr}

/-! ### Ticks -/

/-- A timer above 1 is decremented and the hop event is still to come (40_hop_scheduler.md R121). -/
theorem exec_tick_of_one_lt (hrun : s.run = true) (h : 1 < s.hopTimer.toNat) :
    exec .tick s = .next { s with hopTimer := BitVec.ofNat 9 (s.hopTimer.toNat - 1) } := by
  have hne : s.hopTimer ≠ 1 := fun he => by simp [he] at h
  have hpred : s.hopTimer - 1 = BitVec.ofNat 9 (s.hopTimer.toNat - 1) := by bv_omega
  rw [exec_tick, whenRunning_of_run s hrun, tick_eq, if_neg hne, hpred]

/-- At 1 the timer reaches 0 and the tick is the hop event (40_hop_scheduler.md R121). -/
theorem exec_tick_of_one (hrun : s.run = true) (h : s.hopTimer = 1) : exec .tick s = exec .hop { s with hopTimer := 0 } := by
  rw [exec_tick, whenRunning_of_run s hrun, tick_eq, if_pos h, exec_hop, whenRunning_of_run _ (by exact hrun)]

/-- Settles O10: above 1, at 1, and halted. -/
theorem tickCountsDownOrHops : Obligations.TickCountsDownOrHops := by
  intro s
  refine ⟨exec_tick_of_one_lt, fun hrun h => ?_, fun hrun => ?_⟩
  · obtain ⟨t, ht⟩ := exec_total .hop { s with hopTimer := 0 }
    exact ⟨t, ht, (exec_tick_of_one hrun h).trans ht⟩
  · rw [exec_tick, whenRunning_of_halted s hrun]

theorem execTimes_succ_of_exec {n : Nat} (h : exec i s = .next t) : execTimes i (n + 1) s = execTimes i n t := by
  rw [execTimes, h]

/-- One invocation more than `n` is `exec` once more. -/
theorem execTimes_succ_of_execTimes {n : Nat} (h : execTimes i n s = .next t) : execTimes i (n + 1) s = exec i t := by
  induction n generalizing s with
  | zero =>
    cases h
    obtain ⟨u, hu⟩ := exec_total i t
    rw [execTimes_succ_of_exec hu, hu]
    rfl
  | succ n ih =>
    obtain ⟨u, hu⟩ := exec_total i s
    rw [execTimes_succ_of_exec hu] at h ⊢
    exact ih h

/-- `n` ticks count a load of `n + 1` down to 1 and do nothing else. -/
theorem execTimes_tick_of_load {n : Nat} (hrun : s.run = true) (h : s.hopTimer.toNat = n + 1) :
    execTimes .tick n s = .next { s with hopTimer := 1 } := by
  induction n generalizing s with
  | zero =>
    have hone : s.hopTimer = 1 := BitVec.eq_of_toNat_eq h
    rw [← hone]
    rfl
  | succ n ih =>
    have hlt := s.hopTimer.isLt
    rw [execTimes_succ_of_exec (exec_tick_of_one_lt hrun (by omega))]
    exact ih hrun (by simp only [BitVec.toNat_ofNat]; omega)

/-- Settles O11: `n` ticks count down to 1, and the next one hops. -/
theorem loadOfTicksGivesOneHop : Obligations.LoadOfTicksGivesOneHop := by
  intro s n hrun h
  have hticks := execTimes_tick_of_load hrun h
  obtain ⟨t, ht⟩ := exec_total .hop { s with hopTimer := 0 }
  exact ⟨hticks, t, ht, by rw [execTimes_succ_of_execTimes hticks, exec_tick_of_one (by exact hrun) rfl, ht]⟩

/-! ### The index -/

/-- This hardware steps the index by one, whether or not a reply is requested (40_hop_scheduler.md R124). -/
theorem nextIndex_params (b : Bool) (x : BitVec 6) : nextIndex Config.params b x = BitVec.ofNat 6 ((x.toNat + 1) % 47) := by
  cases b <;> rfl

theorem nextIndex_params_toNat (b : Bool) (x : BitVec 6) : (nextIndex Config.params b x).toNat = (x.toNat + 1) % 47 := by
  rw [nextIndex_toNat Config.params_legal]
  cases b <;> rfl

/-- Settles O12: the index of this hardware, and of every legal table. -/
theorem advanceIndexLaw : Obligations.AdvanceIndexLaw := by
  refine ⟨fun s hrun => ?_, fun p s hp => ⟨_, rfl, nextIndex_toNat hp s.tlmPending s.channelIndex⟩⟩
  rw [exec_advance, whenRunning_of_run s hrun, advance, nextIndex_params]

/-! ### The hop event -/

/-- The entry that a hop event tunes to, byte by byte (40_hop_scheduler.md R123 line 8, 20_memory.md R61). -/
theorem tuneCmd_nextIndex (b : Bool) (x : BitVec 6) :
    tuneCmd s (nextIndex Config.params b x).toNat =
      .tune (htRead s (4 * ((x.toNat + 1) % 47))) (htRead s (4 * ((x.toNat + 1) % 47) + 1))
        (htRead s (4 * ((x.toNat + 1) % 47) + 2)) (htRead s (4 * ((x.toNat + 1) % 47) + 3)) := by
  rw [nextIndex_params_toNat]
  rfl

/-- A miss is counted up to the saturation of the 16-bit count (43_loss_detector.md R181). -/
theorem missedCount_toNat (b : Bool) (m : BitVec 16) :
    (if b then m else sat16 (m.toNat + 1)).toNat = if b then m.toNat else min (m.toNat + 1) 65535 := by
  rw [apply_ite BitVec.toNat, sat16_toNat]

/-- A closing window's frame count becomes the link quality (43_loss_detector.md R183). -/
theorem linkQuality_toNat (c : Prop) [Decidable c] (count : BitVec 7) (quality : BitVec 8) :
    (if c then count.setWidth 8 else quality).toNat = if c then count.toNat else quality.toNat := by
  rw [apply_ite BitVec.toNat, BitVec.toNat_setWidth_of_le (by decide)]

/-- A requested reply is written over the whole buffer (44_telemetry_arbiter.md R203). -/
theorem hop_pkt_of_requested (hreq : s.tlmPending = true) :
    (hop Config.params s).pkt = (storeFrame (tlmReply Config.params s).1 s).pkt := by
  rw [hop_rec]
  simp only [hreq, if_true, storeFrame]

/-- The frame of a hop event's reply (41_framer_validator.md R147). -/
theorem pktFrame_hop_of_requested (hreq : s.tlmPending = true) :
    pktFrame (hop Config.params s) =
      #v[0x11, s.txid0, s.txid1, s.inputs.adc0, s.inputs.adc1, s.rssi, 0, 0, 0, 0, 0, 0, 0, 0, 0, 0, 0, 0, 0, 0] := by
  rw [pktFrame_congr (hop_pkt_of_requested hreq), pktFrame_storeFrame, tlmReply, encodeTelemetry_params]

/-- Without a request a hop event leaves `PKT` alone, and with one what lies beyond its 20 bytes. -/
theorem pktRead_hop {a : Nat} (h : s.tlmPending = false ∨ 20 ≤ a) : pktRead (hop Config.params s) a = pktRead s a := by
  cases hreq : s.tlmPending with
  | false => exact pktRead_congr (hop_pkt_of_unrequested hreq) a
  | true =>
    have ha : 20 ≤ a := h.resolve_left (by simp [hreq])
    rw [pktRead_congr (hop_pkt_of_requested hreq), pktRead_storeFrame_of_le _ ha]

/-- Settles O13: the fields by `hop_rec`, the memories by what the reply writes. -/
theorem hopEventEffect : Obligations.HopEventEffect := by
  intro s hrun
  refine ⟨hop Config.params s, by rw [exec_hop, whenRunning_of_run s hrun], ?_⟩
  have hframe (hreq : s.tlmPending = true) := pktFrame_hop_of_requested hreq
  have hread (a : Nat) (h : s.tlmPending = false ∨ 20 ≤ a) := pktRead_hop h
  rw [hop_rec] at hframe hread ⊢
  refine ⟨nextIndex_params_toNat _ _, missedCount_toNat _ _, rfl, rfl, rfl, linkQuality_toNat _ _ _, rfl, rfl, ?radio, rfl, rfl,
    rfl, rfl, hframe, hread, fun a => htRead_congr rfl a, rfl⟩
  case radio => rw [tuneCmd_nextIndex, List.append_assoc]; rfl

/-! ### Who writes what -/

/-- The values of the last frame, the read port and the data inputs are the same in both states. -/
structure DataKept (s t : State) : Prop where
  rssi : t.rssi = s.rssi
  chan : t.chan = s.chan
  tlmId : t.tlmId = s.tlmId
  hrdata : t.hrdata = s.hrdata
  inputs : t.inputs = s.inputs

/-- The two registers of the grid are the same in both states, and so are the data. -/
structure GridAndDataKept (s t : State) : Prop extends DataKept s t where
  timer : t.hopTimer = s.hopTimer
  index : t.channelIndex = s.channelIndex

theorem DataKept.frameValues (h : DataKept s t) : ¬ (t.rssi ≠ s.rssi ∨ t.chan ≠ s.chan ∨ t.tlmId ≠ s.tlmId) := by
  simp [h.rssi, h.chan, h.tlmId]

theorem DataKept.refl (s : State) : DataKept s s := ⟨rfl, rfl, rfl, rfl, rfl⟩

theorem GridAndDataKept.refl (s : State) : GridAndDataKept s s := ⟨.refl s, rfl, rfl⟩

theorem GridAndDataKept.guarded {f : State → State} (hf : GridAndDataKept s (f s)) : GridAndDataKept s (whenRunning f s) :=
  whenRunning_keeps (.refl s) fun _ => hf

theorem GridAndDataKept.raise (h : GridAndDataKept s t) (k : ErrorKind) : GridAndDataKept s (raise k t) := { h with }

/-- An overflow is recovered from by the radio and the direction alone (60_exceptions.md R249). -/
theorem GridAndDataKept.ovfRecover (h : GridAndDataKept s t) : GridAndDataKept s (ovfRecover t) := by
  rw [ovfRecover_rec]; exact { h with }

theorem stopBlock_keeps_grid : GridAndDataKept s (stopBlock s) := { DataKept.refl s with timer := rfl, index := rfl }

theorem txDone_keeps_grid :
    GridAndDataKept s (if s.run = true ∧ s.dir = .transmittingFrom then armReceive s else ignoreEvent s) := by
  split_ifs
  · exact { DataKept.refl s with timer := rfl, index := rfl }
  · exact .refl s

theorem regWrite_keeps_grid {n : BitVec 6} (d : BitVec 16) (hn : n ≠ 0) : GridAndDataKept s (regWrite n d s) := by
  rw [regWrite, if_neg hn]
  split_ifs <;> exact { DataKept.refl s with timer := rfl, index := rfl }

theorem htTableWrite_keeps_grid (i : BitVec 6) (j : BitVec 2) (d : BitVec 16) :
    GridAndDataKept s (htTableWrite Config.params i j d s) := by
  unfold htTableWrite
  split_ifs
  · exact { DataKept.refl s with timer := rfl, index := rfl }
  · exact .refl s

/-- Of the three cases of `RX_DONE` (41_framer_validator.md R141) only the accepted frame writes the grid or the data. -/
theorem rxDone_keeps_grid_or_accepts :
    GridAndDataKept s (rxDone Config.params s) ∨ rxDone Config.params s = accept Config.params s := by
  unfold rxDone
  split_ifs
  · exact .inr rfl
  · exact .inl { DataKept.refl s with timer := rfl, index := rfl }
  · exact .inl (.refl s)

theorem startBlock_dataKept : DataKept s (startBlock s) := ⟨rfl, rfl, rfl, rfl, rfl⟩

theorem start_dataKept : DataKept s (if s.run then ignoreEvent s else startBlock s) := by
  split_ifs
  · exact .refl s
  · exact startBlock_dataKept

theorem ctrlWrite_dataKept (b : Bool) : DataKept s (ctrlWrite b s) := by
  unfold ctrlWrite
  split_ifs
  · exact startBlock_dataKept
  · exact stopBlock_keeps_grid.toDataKept
  · exact .refl s

theorem hop_dataKept : DataKept s (hop Config.params s) := by
  rw [hop_rec]; exact ⟨rfl, rfl, rfl, rfl, rfl⟩

theorem tick_dataKept : DataKept s (tick Config.params s) := by
  rw [tick_eq]
  split_ifs
  · rw [hop_hopTimer]; exact hop_dataKept
  · exact ⟨rfl, rfl, rfl, rfl, rfl⟩

/-- A `TICK` moves the index at a hop event only. -/
theorem whenRunning_tick_index (hne : (whenRunning (tick Config.params) s).channelIndex ≠ s.channelIndex) :
    s.run = true ∧ s.hopTimer = 1 := by
  have hrun : s.run = true := by
    by_contra hhalted
    exact hne (by rw [whenRunning_of_halted s (Bool.eq_false_iff.mpr hhalted)])
  refine ⟨hrun, by_contra fun htimer => hne ?_⟩
  rw [whenRunning_of_run s hrun, tick_eq, if_neg htimer]

/-- An operation that has an encoding leaves the grid and the data alone, or is one of their six writers. -/
theorem exec_keeps_grid_or_writer (hi : i.encodable = true) (hx : exec i s = .next t) :
    GridAndDataKept s t ∨ (i = .rxDone ∧ t = accept Config.params s) ∨ i = .tick ∨ i = .start ∨ i = .reset ∨
      (∃ d, i = .regWr 0 d) ∨ ∃ n, i = .regRd n := by
  cases i <;> cases hx
  case reset | tick | start | regRd => simp
  case rxDone => exact rxDone_keeps_grid_or_accepts.imp_right fun h => .inl ⟨rfl, h⟩
  case regWr n d =>
    by_cases hn : n = 0
    · simp [hn]
    · exact .inl (regWrite_keeps_grid d hn)
  case ovfRx | ovfTx => exact .inl (.guarded ((GridAndDataKept.refl s).raise _).ovfRecover)
  case ovfBoth => exact .inl (.guarded (((GridAndDataKept.refl s).raise _).raise _).ovfRecover)
  case txDone => exact .inl txDone_keeps_grid
  case htWr i j d => exact .inl (htTableWrite_keeps_grid i j d)
  case stop => exact .inl (.guarded stopBlock_keeps_grid)
  case validate | decodeCh | decodeRssi | encodeTlm | hubStuff =>
    exact .inl { DataKept.refl s with timer := rfl, index := rfl }
  all_goals cases hi

/-- An accepted frame moves the grid when it locks the connection, and then only (43_loss_detector.md R182, R126). -/
theorem accept_hopTimer :
    (accept Config.params s).hopTimer = s.hopTimer ∨
      (s.connState ≠ .locked ∧ (accept Config.params s).connState = .locked ∧ (accept Config.params s).hopTimer = 9) := by
  rw [accept_rec]
  by_cases h : s.connState = .locked
  · exact .inl (if_pos h)
  · exact .inr ⟨h, rfl, if_neg h⟩

/-- Settles O14: of the writers that are left, a register read does not touch the timer and an accepted frame locks. -/
theorem onlyTheLockingFrameMovesTheGrid : Obligations.OnlyTheLockingFrameMovesTheGrid := by
  intro i s t hi hx htick hstart hreset hctrl
  obtain hkept | ⟨rfl, rfl⟩ | h | h | h | ⟨d, h⟩ | ⟨n, rfl⟩ := exec_keeps_grid_or_writer hi hx
  · exact .inl hkept.timer
  · exact accept_hopTimer.imp_right fun hlock => ⟨rfl, hlock⟩
  · exact absurd h htick
  · exact absurd h hstart
  · exact absurd h hreset
  · exact absurd h (hctrl d)
  · cases hx; exact .inl rfl

theorem accept_pktSeen : (accept Config.params s).pktSeen = true := by rw [accept_rec]

theorem accept_channelIndex : (accept Config.params s).channelIndex = s.channelIndex := by rw [accept_rec]

theorem accept_hrdata : (accept Config.params s).hrdata = s.hrdata := by rw [accept_rec]

theorem accept_inputs : (accept Config.params s).inputs = s.inputs := by rw [accept_rec]

/-- Settles O50, writer by writer. -/
theorem eachRegisterHasItsWriters : Obligations.EachRegisterHasItsWriters := by
  intro i s t hi hx
  have hscript := exec_script_eq hx
  obtain h | ⟨rfl, rfl⟩ | rfl | rfl | rfl | ⟨d, rfl⟩ | ⟨n, rfl⟩ := exec_keeps_grid_or_writer hi hx
  -- In the lemma's order: nothing written, an accepted frame, `TICK`, `START`, `RESET`, a write of `CTRL`, a register read.
  · exact ⟨(absurd h.index ·), (absurd · h.frameValues), (absurd h.hrdata ·), h.inputs, hscript⟩
  · exact ⟨(absurd accept_channelIndex ·), fun _ => .inl ⟨rfl, accept_pktSeen⟩, (absurd accept_hrdata ·), accept_inputs, hscript⟩
  · cases hx
    have h : DataKept s (whenRunning (tick Config.params) s) := whenRunning_keeps (.refl s) fun _ => tick_dataKept
    exact ⟨fun hne => .inl ⟨rfl, whenRunning_tick_index hne⟩, (absurd · h.frameValues), (absurd h.hrdata ·), h.inputs, hscript⟩
  · cases hx
    have h := start_dataKept (s := s)
    exact ⟨fun _ => .inr (.inl rfl), (absurd · h.frameValues), (absurd h.hrdata ·), h.inputs, hscript⟩
  · cases hx
    exact ⟨fun _ => .inr (.inr (.inl rfl)), fun _ => .inr rfl, fun _ => .inl rfl, rfl, hscript⟩
  · cases hx
    have h : DataKept s (regWrite 0 d s) := ctrlWrite_dataKept _
    exact ⟨fun _ => .inr (.inr (.inr ⟨d, rfl⟩)), (absurd · h.frameValues), (absurd h.hrdata ·), h.inputs, hscript⟩
  · cases hx
    exact ⟨(absurd rfl ·), (absurd · (DataKept.refl s).frameValues), fun _ => .inr ⟨n, rfl⟩, rfl, hscript⟩

/-! ### The guard -/

/-- Settles O52: every micro-operation is invoked under `whenRunning`, and `NOP_EVENT` does nothing anyway (R120). -/
theorem haltedMicroOperationsDoNothing : Obligations.HaltedMicroOperationsDoNothing := by
  intro s i hrun hi
  have hguard (f : State → State) : Host.Outcome.next (whenRunning f s) = (.next s : Result) := by
    rw [whenRunning_of_halted s hrun]
  cases i
  case hop | txTimeout | advance | missAccount | windowEval | tlmOpen => exact hguard _
  case accept | reject | lockOnFrame | tlmLatch | ovfRecover => exact hguard _
  case nopEvent => rfl
  all_goals cases hi

end Sys2Proof.Machine
end

section
/-! The framer of 41_framer_validator.md: the pure units `VALIDATE`, `DECODE_CH`, `ENCODE_TLM`, `HUB_STUFF` (O24, O25, O27,
O28) and the two round trips (O26, O29); then what a reception does to the block (O21, O22, O23) and that a window counts at
most one frame per interval (O32). -/

namespace Sys2Proof.Machine

variable {s t : State}

/-! ### `VALIDATE` -/

/-- `VALIDATE` with the CRC-ok flag as a number (41_framer_validator.md R142, 30_encoding.md R85). -/
theorem validateFrame_iff_le (p : Params) (f : Frame) (id0 id1 : Byte) :
    validateFrame p f id0 id1 = true ↔ 128 ≤ f[19].toNat ∧ (p.idCheckEn = false ∨ (f[1] = id0 ∧ f[2] = id1)) := by
  rw [validateFrame_iff, crcOk_iff]

/-- This hardware always compares the identity (00_scope.md R8). -/
theorem validateFrame_params (f : Frame) (id0 id1 : Byte) :
    validateFrame Config.params f id0 id1 = decide (128 ≤ f[19].toNat ∧ f[1] = id0 ∧ f[2] = id1) := by
  rw [Bool.eq_iff_iff, validateFrame_iff_le, decide_eq_true_iff]
  simp

/-- Settles O24: the select by definition, the result by `validateFrame_iff_le`. -/
theorem validateEffect : Obligations.ValidateEffect := by
  refine ⟨fun _ => rfl, fun f id0 id1 s => ?_, validateFrame_iff_le⟩
  rw [exec_validate, validateFrame_params]
  rfl

/-! ### `DECODE_CH` -/

/-- The eight channel fields of a frame as numbers, byte by byte as 41_framer_validator.md R146 writes them out. -/
def channelNumbers (f : Frame) : Vector Nat 8 :=
  #v[f[6].toNat + 256 * (f[10].toNat % 16), f[7].toNat + 256 * (f[10].toNat / 16),
     f[8].toNat + 256 * (f[11].toNat % 16), f[9].toNat + 256 * (f[11].toNat / 16),
     f[12].toNat + 256 * (f[16].toNat % 16), f[13].toNat + 256 * (f[16].toNat / 16),
     f[14].toNat + 256 * (f[17].toNat % 16), f[15].toNat + 256 * (f[17].toNat / 16)]

/-- The positions of 30_encoding.md R84 are those of the written-out formula. -/
theorem channelNumbers_getElem (f : Frame) (k : Fin 8) : (channelNumbers f)[k] = (channelField f k).toNat := by
  rw [channelField_toNat, add_comm, mul_comm]
  fin_cases k <;> rfl

theorem decodeChannels_getElem (p : Params) (f : Frame) (k : Fin 8) :
    (decodeChannels p f)[k] = (channelField f k).setWidth 16 &&& p.chMask := by
  simp [decodeChannels]

/-- This hardware's mask keeps the whole field (41_framer_validator.md R146). -/
theorem decodeChannels_params_getElem (f : Frame) (k : Fin 8) :
    (decodeChannels Config.params f)[k] = (channelField f k).setWidth 16 := by
  rw [decodeChannels_getElem, Config.params_chMask]
  exact setWidth_and_mask _

/-- A field as a number, at the width of a channel value. -/
theorem ofNat_channelNumbers (f : Frame) (k : Fin 8) :
    BitVec.ofNat 16 (channelNumbers f)[k] = (channelField f k).setWidth 16 := by
  rw [channelNumbers_getElem, BitVec.ofNat_toNat]

theorem decodeChannels_params (f : Frame) :
    decodeChannels Config.params f = (channelNumbers f).map (BitVec.ofNat 16) := by
  ext1 k hk
  rw [Vector.getElem_map]
  exact (decodeChannels_params_getElem f ⟨k, hk⟩).trans (ofNat_channelNumbers f ⟨k, hk⟩).symm

/-- Settles O25: the written-out numbers are the fields, which this hardware's mask keeps. -/
theorem decodeChEffect : Obligations.DecodeChEffect := by
  refine ⟨fun _ => rfl, fun f => ⟨fun s => ?_, fun p k => ?_⟩⟩
  · rw [exec_decodeCh, decodeChannels_params]
    rfl
  · rw [decodeChannels_getElem, ← ofNat_channelNumbers]
    rfl

/-! ### The channel round trip -/

/-- A joined byte holds the nibble of an even channel below that of an odd one (30_encoding.md R84). -/
theorem nibbleOf_append (k : Nat) (hi lo : BitVec 4) : nibbleOf k (hi ++ lo) = if k % 2 = 0 then lo else hi := by
  have hhi := hi.isLt
  have hlo := lo.isLt
  apply BitVec.eq_of_toNat_eq
  rw [nibbleOf_toNat, toNat_append_4_4]
  split_ifs <;> omega

/-- The upper nibble and the low byte of a value are its low 12 bits. -/
theorem nibble_append_low (v : BitVec 16) : v.extractLsb' 8 4 ++ v.extractLsb' 0 8 = v.setWidth 12 := by
  apply BitVec.eq_of_toNat_eq
  rw [toNat_append_4_8, toNat_slice, toNat_slice, BitVec.toNat_setWidth]
  omega

/-- `RXFRAME` places the low 12 bits of each value where `DECODE_CH` looks for them (30_encoding.md R84, R99). -/
theorem channelField_rxFrame (id0 id1 seq tid : Byte) (ch : Channels) (rssi : Byte) (lqi : BitVec 7) (crc : Bool) (k : Fin 8) :
    channelField (rxFrame id0 id1 seq tid ch rssi lqi crc) k = ch[k].setWidth 12 := by
  rw [← nibble_append_low]
  fin_cases k <;> exact congrArg (· ++ _) (nibbleOf_append _ _ _)

/-- A mask of the low `n` bits gives back a value that fits in them, if a field holds them all. -/
theorem setWidth_and_mask_of_lt {n : Nat} {v mask : BitVec 16} (hn : n ≤ 12) (hmask : mask.toNat = 2 ^ n - 1)
    (hv : v.toNat < 2 ^ n) : (v.setWidth 12).setWidth 16 &&& mask = v := by
  have hfield : v.toNat < 2 ^ 12 := hv.trans_le (Nat.pow_le_pow_right (by decide) hn)
  apply BitVec.eq_of_toNat_eq
  rw [BitVec.toNat_and, BitVec.toNat_setWidth, BitVec.toNat_setWidth, hmask, Nat.and_two_pow_sub_one_eq_mod,
    Nat.mod_eq_of_lt hfield, Nat.mod_eq_of_lt v.isLt, Nat.mod_eq_of_lt hv]

/-- Settles O26: a value that fits under the mask is the field, which carries it whole. -/
theorem channelRoundTrip : Obligations.ChannelRoundTrip := by
  intro p id0 id1 seq tid ch rssi lqi crc h
  ext1 k hk
  refine (decodeChannels_getElem p _ ⟨k, hk⟩).trans ?_
  rw [channelField_rxFrame]
  obtain ⟨hmask, hch⟩ | ⟨hmask, hch⟩ := h
  · exact setWidth_and_mask_of_lt (n := 12) (by decide) (by rw [hmask]; rfl) (Nat.lt_succ_of_le (hch ⟨k, hk⟩))
  · exact setWidth_and_mask_of_lt (n := 11) (by decide) (by rw [hmask]; rfl) (Nat.lt_succ_of_le (hch ⟨k, hk⟩))

/-! ### `ENCODE_TLM` -/

/-- The hub payload length as a number (41_framer_validator.md R147, 30_encoding.md R94). -/
theorem hubLength_toNat (p : Params) (nIn : BitVec 4) :
    (hubLength p nIn).toNat = if p.hubTlmEn then min nIn.toNat 10 else 0 := by
  have hmax : Config.hubMax.toNat = 10 := rfl
  unfold hubLength
  split_ifs with _ hn
  · omega
  · rw [hmax]; omega
  · rfl

/-- Byte 6 of the frame: the payload length, if telemetry is extended (41_framer_validator.md R147). -/
theorem lengthByte_toNat (b : Bool) (n : BitVec 4) :
    (if b then n.setWidth 8 else (0 : Byte)).toNat = if b then n.toNat else 0 := by
  rw [apply_ite BitVec.toNat, BitVec.toNat_setWidth_of_le (by decide)]
  rfl

/-- Settles O27: this hardware's frame by `encodeTelemetry_params`, the others byte by byte. -/
theorem encodeTlmEffect : Obligations.EncodeTlmEffect := by
  refine ⟨fun _ => rfl, fun tid a0 a1 rs id0 id1 nIn d => ⟨fun s => ?_, fun p _ => ?_⟩⟩
  · rw [exec_encodeTlm, encodeTelemetry_params]
    rfl
  · refine ⟨hubLength_toNat p nIn, rfl, rfl, rfl, rfl, rfl, rfl, lengthByte_toNat _ _, rfl, fun i => ?_, rfl, rfl⟩
    fin_cases i <;> rfl

/-! ### `HUB_STUFF` -/

/-- The low byte of a value, as R148 computes it. -/
theorem lowByte_eq (val : BitVec 16) : val.extractLsb' 0 8 = BitVec.ofNat 8 (val.toNat % 256) := by
  apply BitVec.eq_of_toNat_eq
  rw [toNat_slice, BitVec.toNat_ofNat]
  omega

/-- The high byte of a value, as R148 computes it. -/
theorem highByte_eq (val : BitVec 16) : val.extractLsb' 8 8 = BitVec.ofNat 8 (val.toNat / 256) := by
  apply BitVec.eq_of_toNat_eq
  rw [toNat_slice, BitVec.toNat_ofNat]
  rfl

/-- A reserved byte is stuffed into two, any other into one (30_encoding.md R87). -/
theorem stuffByte_length (b : Byte) : (stuffByte b).length = 1 + if b = 0x5E ∨ b = 0x5D then 1 else 0 := by
  by_cases hdelim : b = Config.hubDelim
  · rw [hdelim]; rfl
  · by_cases hesc : b = Config.hubEsc
    · rw [hesc]; rfl
    · have hplain : ¬ (b = 0x5E ∨ b = 0x5D) := not_or.mpr ⟨hdelim, hesc⟩
      rw [stuffByte, if_neg hdelim, if_neg hesc, if_neg hplain]
      rfl

theorem hubStuffBytes_length (sid : Byte) (val : BitVec 16) :
    (hubStuffBytes sid val).length = 3 + (stuffByte (val.extractLsb' 0 8)).length + (stuffByte (val.extractLsb' 8 8)).length := by
  simp only [hubStuffBytes, List.length_append, List.length_cons, List.length_nil]
  omega

/-- Settles O28: the two value bytes as numbers, and the length of each when stuffed. -/
theorem hubStuffEffect : Obligations.HubStuffEffect := by
  refine ⟨fun _ => rfl, fun sid val s => ?_⟩
  have hbytes := hubStuffBytes_length sid val
  simp only [← lowByte_eq, ← highByte_eq]
  refine ⟨rfl, ?_⟩
  rw [stuffByte_length, stuffByte_length] at hbytes
  refine hbytes.trans ?_
  omega

/-- The reverse routine takes a stuffed byte off the front of what follows it. -/
theorem unstuffBytes_stuffByte_append (b : Byte) (r : List Byte) : unstuffBytes (stuffByte b ++ r) = b :: unstuffBytes r := by
  unfold stuffByte
  split_ifs with hdelim hesc
  · rw [hdelim]; rfl
  · rw [hesc]; rfl
  · cases r with
    | nil => rfl
    | cons c r => simp [unstuffBytes, hesc]

/-- The delimiter never comes out of stuffing. -/
theorem ne_hubDelim_of_mem_stuffByte {b c : Byte} (h : c ∈ stuffByte b) : c ≠ 0x5E := by
  unfold stuffByte at h
  split_ifs at h with hdelim hesc
  · exact (show ∀ x ∈ [Config.hubEsc, Config.hubEscDelim], x ≠ 0x5E by decide) c h
  · exact (show ∀ x ∈ [Config.hubEsc, Config.hubEscEsc], x ≠ 0x5E by decide) c h
  · rw [List.mem_singleton.mp h]; exact hdelim

/-- What lies between header and footer: the sensor id and the two stuffed bytes (41_framer_validator.md R148). -/
theorem hubStuffBytes_inner (sid : Byte) (val : BitVec 16) :
    (hubStuffBytes sid val).tail.dropLast = sid :: (stuffByte (val.extractLsb' 0 8) ++ stuffByte (val.extractLsb' 8 8)) :=
  List.dropLast_concat (l₁ := sid :: (stuffByte (val.extractLsb' 0 8) ++ stuffByte (val.extractLsb' 8 8)))

/-- The two bytes of a value, joined again. -/
theorem highByte_append_lowByte (val : BitVec 16) : val.extractLsb' 8 8 ++ val.extractLsb' 0 8 = val := by
  have hval := val.isLt
  apply BitVec.eq_of_toNat_eq
  rw [toNat_append_8_8, toNat_slice, toNat_slice]
  omega

/-- Settles O29: the reverse routine takes off the two stuffed bytes one after the other. -/
theorem hubRoundTrip : Obligations.HubRoundTrip := by
  intro sid val
  have hvalue : unstuffBytes (stuffByte (val.extractLsb' 0 8) ++ stuffByte (val.extractLsb' 8 8)) =
      [val.extractLsb' 0 8, val.extractLsb' 8 8] := by
    rw [unstuffBytes_stuffByte_append, ← List.append_nil (stuffByte (val.extractLsb' 8 8)), unstuffBytes_stuffByte_append]
    rfl
  rw [hubUnstuff, hubStuffBytes_inner]
  refine ⟨?_, fun hsid b hb => ?_⟩
  · simp only [hvalue, highByte_append_lowByte]
  · obtain rfl | hlo | hhi : b = sid ∨ b ∈ stuffByte (val.extractLsb' 0 8) ∨ b ∈ stuffByte (val.extractLsb' 8 8) := by
      simpa using hb
    · exact hsid
    · exact ne_hubDelim_of_mem_stuffByte hlo
    · exact ne_hubDelim_of_mem_stuffByte hhi

/-! ### `REJECT` and `RX_DONE` -/

/-- Settles O23, by `reject_rec`. -/
theorem rejectEffect : Obligations.RejectEffect := by
  intro s hrun
  rw [exec_reject, whenRunning_of_run s hrun, reject_rec]

/-- The frame in `PKT` passes when its CRC-ok flag is set and its bytes 1 and 2 are the identity (41_framer_validator.md R142). -/
theorem pktValid_params_iff :
    pktValid Config.params s = true ↔ 128 ≤ (pktRead s 19).toNat ∧ pktRead s 1 = s.txid0 ∧ pktRead s 2 = s.txid1 := by
  rw [pktValid, validateFrame_params, decide_eq_true_iff, getElem_pktFrame, getElem_pktFrame, getElem_pktFrame]

theorem rxDone_of_valid (hrun : s.run = true) (hdir : s.dir = .receivingInto) (h : pktValid Config.params s = true) :
    rxDone Config.params s = accept Config.params s := by
  rw [rxDone, if_pos ⟨hrun, hdir⟩, if_pos h]

theorem rxDone_of_invalid (hrun : s.run = true) (hdir : s.dir = .receivingInto) (h : ¬ pktValid Config.params s = true) :
    rxDone Config.params s = reject s := by
  rw [rxDone, if_pos ⟨hrun, hdir⟩, if_neg h]

/-- A reception that is not expected is dropped (41_framer_validator.md R141). -/
theorem rxDone_of_unexpected (h : ¬ (s.run = true ∧ s.dir = .receivingInto)) : rxDone Config.params s = s := by
  rw [rxDone, if_neg h, ignoreEvent]

theorem accept_dir : (accept Config.params s).dir = .idle := rfl

/-- Settles O21: an expected reception by `VALIDATE`, any other dropped. -/
theorem rxDoneAcceptsOrRejects : Obligations.RxDoneAcceptsOrRejects := by
  intro s
  refine ⟨fun hrun hdir hcrc hid0 hid1 => ?_, fun hrun hdir hbad => ?_, fun h => ?_⟩
  · refine ⟨accept Config.params s, ?_, ?_, accept_pktSeen, accept_dir⟩
    · rw [exec_rxDone, rxDone_of_valid hrun hdir (pktValid_params_iff.mpr ⟨hcrc, hid0, hid1⟩)]
    · rw [exec_accept, whenRunning_of_run s hrun]
  · refine ⟨reject s, ?_, ?_, hdir⟩
    · rw [exec_rxDone, rxDone_of_invalid hrun hdir (pktValid_params_iff.not.mpr hbad)]
    · rw [exec_reject, whenRunning_of_run s hrun]
  · rw [exec_rxDone, rxDone_of_unexpected (by simpa [or_iff_not_imp_left] using h)]

/-! ### `ACCEPT` -/

/-- `DECODE_RSSI` on integers, truncated to 8 bits (42_rssi_decoder.md R171 to R173). -/
theorem decodeRssiByte_toNat (raw : Byte) :
    ((decodeRssiByte raw).toNat : Int) = ((raw.toNat : Int) * 18 / 32 + if 128 ≤ raw.toNat then -82 else 65) % 256 := by
  have hshift : ((raw.toNat * 18) >>> 5 : Nat) = raw.toNat * 18 / 32 := Nat.shiftRight_eq_div_pow _ 5
  have hofInt (v : Int) : ((BitVec.ofInt 8 v).toNat : Int) = v % 256 := by
    rw [BitVec.toNat_ofInt]
    exact Int.toNat_of_nonneg (Int.emod_nonneg v (by decide))
  unfold decodeRssiByte
  rw [hshift]
  split_ifs
  · rw [hofInt]; rfl
  · rw [hofInt]; rfl

/-- `ACCEPT` stores the 12-bit fields of the frame (41_framer_validator.md R144, R146). -/
theorem accept_chan_getElem (k : Fin 8) : (accept Config.params s).chan[k] = channelField (pktFrame s) k := by
  rw [accept_rec]
  simp only [Fin.getElem_fin, Vector.getElem_map]
  refine (congrArg (BitVec.setWidth 12) (decodeChannels_params_getElem (pktFrame s) k)).trans ?_
  exact BitVec.setWidth_setWidth_of_le _ (by decide)

/-- The stored fields as numbers, by the bytes of `PKT`. -/
theorem accept_chan_toNat (k : Fin 8) : (accept Config.params s).chan[k].toNat = (channelNumbers (pktFrame s))[k] := by
  rw [accept_chan_getElem, channelNumbers_getElem]

/-- A consumed frame loses its status byte and no other (41_framer_validator.md R144). -/
theorem accept_pkt : (accept Config.params s).pkt = (pktWrite 19 0 s).pkt := by
  rw [accept_rec]; rfl

/-- Settles O22: the fields by `accept_rec`, the decoded values by the bytes of `PKT`. -/
theorem acceptEffect : Obligations.AcceptEffect := by
  intro s hrun
  refine ⟨accept Config.params s, by rw [exec_accept, whenRunning_of_run s hrun], ?_⟩
  have hchan (k : Fin 8) := accept_chan_toNat (s := s) k
  simp only [channelNumbers, getElem_pktFrame] at hchan
  have hpkt (a : Nat) : pktRead (accept Config.params s) a = if a = 19 then 0 else pktRead s a := by
    rw [pktRead_congr accept_pkt, pktRead_pktWrite]
  rw [accept_rec] at hchan hpkt ⊢
  exact ⟨rfl, rfl, rfl, rfl, decodeRssiByte_toNat _, hchan 0, hchan 1, hchan 2, hchan 3, hchan 4, hchan 5, hchan 6, hchan 7,
    rfl, rfl, rfl, rfl, hpkt, fun a => htRead_congr rfl a, rfl⟩

/-! ### One frame per interval -/

theorem whenRunning_rxCount_le {f : State → State} (hf : (f s).rxCount.toNat ≤ s.rxCount.toNat) :
    (whenRunning f s).rxCount.toNat ≤ s.rxCount.toNat :=
  whenRunning_keeps (P := fun u => u.rxCount.toNat ≤ s.rxCount.toNat) (Nat.le_refl _) fun _ => hf

/-- The closing hop event of a window takes `rxCount` back to 0; no other hop event moves it (40_hop_scheduler.md R125). -/
theorem hop_rxCount_le : (hop Config.params s).rxCount.toNat ≤ s.rxCount.toNat := by
  rw [hop_rec]
  simp only
  split_ifs
  · exact Nat.zero_le _
  · exact Nat.le_refl _

theorem tick_rxCount_le : (tick Config.params s).rxCount.toNat ≤ s.rxCount.toNat := by
  rw [tick_eq]
  split_ifs
  · rw [hop_hopTimer]; exact hop_rxCount_le
  · exact Nat.le_refl _

theorem ovfRecover_rxCount : (ovfRecover s).rxCount = s.rxCount := by rw [ovfRecover_rec]

theorem ctrlWrite_rxCount_le (b : Bool) : (ctrlWrite b s).rxCount.toNat ≤ s.rxCount.toNat := by
  unfold ctrlWrite
  split_ifs
  · exact Nat.zero_le _
  · exact Nat.le_refl _
  · exact Nat.le_refl _

theorem regWrite_rxCount_le (n : BitVec 6) (d : BitVec 16) : (regWrite n d s).rxCount.toNat ≤ s.rxCount.toNat := by
  unfold regWrite
  split_ifs
  · exact ctrlWrite_rxCount_le _
  · exact Nat.le_refl _
  · exact Nat.le_refl _
  · exact Nat.le_refl _

/-- Every operation that has an encoding, but `RX_DONE`, keeps `rxCount` or takes it back to 0. -/
theorem exec_rxCount_le {i : Instr} (hi : i.encodable = true) (hrx : i ≠ .rxDone) (hx : exec i s = .next t) :
    t.rxCount.toNat ≤ s.rxCount.toNat := by
  cases i <;> cases hx
  case rxDone => exact absurd rfl hrx
  case reset => exact Nat.zero_le _
  case ovfRx | ovfTx | ovfBoth => exact whenRunning_rxCount_le (congrArg BitVec.toNat ovfRecover_rxCount).le
  case txDone => split_ifs <;> exact Nat.le_refl _
  case tick => exact whenRunning_rxCount_le tick_rxCount_le
  case regWr n d => exact regWrite_rxCount_le n d
  case htWr i j d => unfold htTableWrite; split_ifs <;> exact Nat.le_refl _
  case start =>
    split_ifs
    · exact Nat.le_refl _
    · exact Nat.zero_le _
  case stop => exact whenRunning_rxCount_le (Nat.le_refl _)
  case regRd | validate | decodeCh | decodeRssi | encodeTlm | hubStuff => exact Nat.le_refl _
  all_goals cases hi

/-- `RX_DONE` counts only by accepting an expected reception (41_framer_validator.md R141). -/
theorem rxDone_counts (h : s.rxCount.toNat < (rxDone Config.params s).rxCount.toNat) :
    s.dir = .receivingInto ∧ rxDone Config.params s = accept Config.params s := by
  unfold rxDone at h ⊢
  split_ifs at h ⊢ with hexpected hvalid
  · exact ⟨hexpected.2, rfl⟩
  · exact absurd h (Nat.lt_irrefl _)
  · exact absurd h (Nat.lt_irrefl _)

/-- An accepted frame adds one to `rxCount` (41_framer_validator.md R144), which has room for it. -/
theorem accept_rxCount_toNat (h : s.rxCount.toNat ≤ 100) :
    (accept Config.params s).rxCount.toNat = s.rxCount.toNat + 1 := by
  have hcount : (accept Config.params s).rxCount = s.rxCount + 1 := by rw [accept_rec]
  rw [hcount]
  exact BitVec.toNat_add_of_lt (by simp; omega)

/-- Settles O32: only an accepted frame counts, and while its reception was expected nothing had been accepted in the interval. -/
theorem oneFramePerInterval : Obligations.OneFramePerInterval := by
  intro i s t h hi hx hlt
  obtain rfl : i = .rxDone := by_contra fun hrx => Nat.not_lt.mpr (exec_rxCount_le hi hrx hx) hlt
  cases hx
  obtain ⟨hdir, haccept⟩ := rxDone_counts hlt
  rw [haccept]
  exact ⟨rfl, h.pktSeen_of_busy (by simp [hdir]), accept_pktSeen, accept_rxCount_toNat h.rxCount_le⟩

end Sys2Proof.Machine
end

section
/-! The RSSI decoder of 42_rssi_decoder.md: what a call of `DECODE_RSSI` does (O30), and that its result is linear up to the floor
of the shift and non-decreasing in each of its ranges (O31). -/

namespace Sys2Proof.Machine

/-! ### The result, range by range (42_rssi_decoder.md R174) -/

/-- `decodeRssiByte_toNat` with the floor as a natural number. -/
theorem decodeRssiByte_toNat_floor (raw : Byte) :
    ((decodeRssiByte raw).toNat : Int) =
      ((raw.toNat * 18 / 32 : Nat) + if 128 ≤ raw.toNat then -82 else 65 : Int) % 256 := by
  rw [decodeRssiByte_toNat]
  rfl

/-- Below 128 nothing is truncated. -/
theorem decodeRssiByte_toNat_of_le_127 {raw : Byte} (h : raw.toNat ≤ 127) :
    (decodeRssiByte raw).toNat = raw.toNat * 18 / 32 + 65 := by
  have hbyte := decodeRssiByte_toNat_floor raw
  rw [if_neg (by omega)] at hbyte
  omega

/-- From 128 to 145 the difference is negative and comes back modulo 256 (42_rssi_decoder.md R173). -/
theorem decodeRssiByte_toNat_of_wrap {raw : Byte} (hlow : 128 ≤ raw.toNat) (hhigh : raw.toNat ≤ 145) :
    (decodeRssiByte raw).toNat = raw.toNat * 18 / 32 + 174 := by
  have hbyte := decodeRssiByte_toNat_floor raw
  rw [if_pos hlow] at hbyte
  omega

/-- From 146 on the difference is not negative, and nothing is truncated. -/
theorem decodeRssiByte_toNat_of_146_le {raw : Byte} (h : 146 ≤ raw.toNat) :
    (decodeRssiByte raw).toNat = raw.toNat * 18 / 32 - 82 := by
  have hbyte := decodeRssiByte_toNat_floor raw
  rw [if_pos (by omega)] at hbyte
  omega

/-- The signed reading gives back the integer before truncation, in the wrapped part as well (42_rssi_decoder.md R173). -/
theorem decodeRssiByte_toInt_of_128_le {raw : Byte} (h : 128 ≤ raw.toNat) :
    (decodeRssiByte raw).toInt = (raw.toNat : Int) * 18 / 32 - 82 := by
  have hraw := raw.isLt
  rw [BitVec.toInt_eq_toNat_cond]
  obtain hwrap | hplain := le_or_gt raw.toNat 145
  · have hbyte := decodeRssiByte_toNat_of_wrap h hwrap
    rw [if_neg (by omega)]
    omega
  · have hbyte := decodeRssiByte_toNat_of_146_le hplain
    rw [if_pos (by omega)]
    omega

/-! ### The call and the law -/

/-- Settles O30: the select and the frame by definition, the result by `decodeRssiByte_toNat`. -/
theorem decodeRssiEffect : Obligations.DecodeRssiEffect :=
  ⟨fun _ => rfl, fun raw s => ⟨decodeRssiByte raw, exec_decodeRssi s raw, decodeRssiByte_toNat raw⟩⟩

/-- Settles O31: in each range the result is the floor plus a constant, and the floor is non-decreasing (R175). -/
theorem rssiMonotoneInEachRange : Obligations.RssiMonotoneInEachRange := by
  refine ⟨fun _ => decodeRssiByte_toNat_of_le_127, fun _ => decodeRssiByte_toInt_of_128_le, fun raw1 raw2 hle => ?_,
    by decide, by decide, by decide⟩
  have hfloor : raw1.toNat * 18 / 32 ≤ raw2.toNat * 18 / 32 := Nat.div_le_div_right (Nat.mul_le_mul_right 18 hle)
  refine ⟨fun h2 => ?_, fun h1 => ?_, fun h1 h2 => ?_, fun h1 => ?_⟩
  · rw [decodeRssiByte_toNat_of_le_127 (hle.trans h2), decodeRssiByte_toNat_of_le_127 h2]
    exact Nat.add_le_add_right hfloor 65
  · rw [decodeRssiByte_toInt_of_128_le h1, decodeRssiByte_toInt_of_128_le (h1.trans hle)]
    exact Int.sub_le_sub_right (mod_cast hfloor) 82
  · rw [decodeRssiByte_toNat_of_wrap h1 (hle.trans h2), decodeRssiByte_toNat_of_wrap (h1.trans hle) h2]
    exact Nat.add_le_add_right hfloor 174
  · rw [decodeRssiByte_toNat_of_146_le h1, decodeRssiByte_toNat_of_146_le (h1.trans hle)]
    exact Nat.sub_le_sub_right hfloor 82

end Sys2Proof.Machine
end

section
/-! The connection-loss detector of 43_loss_detector.md: its three operations (O15, O16, O17), the transitions of `connState` with
what announces them (O18, O19), and the declaration of `Lost` in a silence (O20). -/

namespace Sys2Proof.Machine

variable {s t : State} {i : Instr}

/-! ### `MISS_ACCOUNT`, `LOCK_ON_FRAME` and `WINDOW_EVAL` -/

/-- Settles O15: an interval with a frame, and a miss. -/
theorem missAccountEffect : Obligations.MissAccountEffect := by
  intro s hrun
  rw [exec_missAccount, whenRunning_of_run s hrun, missAccount_eq]
  exact ⟨fun hseen => by rw [if_pos hseen], fun hunseen => by simp [hunseen, sat16]⟩

/-- `LOCK_ON_FRAME` with re-phasing takes the timer to the parameter's value, locked before or not (43_loss_detector.md R182). -/
theorem lockOnFrame_of_rephase {p : Params} {r : Nat} (hp : p.rephaseTicks = some r) :
    lockOnFrame p s =
      { s with connState := .locked, hopTimer := BitVec.ofNat 9 r,
               out := s.out ++ (if s.connState = .locked then [] else [.connRestored]) } := by
  rw [lockOnFrame, rephase, hp]
  by_cases hlocked : s.connState = .locked
  · simp [hlocked]
  · simp [hlocked, lockNow, emitOut]

/-- Settles O16: this hardware does not re-phase, and a parameter record may. -/
theorem lockOnFrameEffect : Obligations.LockOnFrameEffect := by
  refine ⟨fun s hrun => ?_, fun p r s hp => lockOnFrame_of_rephase hp⟩
  rw [exec_lockOnFrame, whenRunning_of_run s hrun, lockOnFrame_eq s Config.params_rephaseTicks]
  exact ⟨fun hlocked => by rw [if_pos hlocked], fun hunlocked => by rw [if_neg hunlocked]⟩

/-- Settles O17, by the four cases of `windowEval_eq`. -/
theorem windowEvalEffect : Obligations.WindowEvalEffect := by
  intro s hrun
  rw [exec_windowEval, whenRunning_of_run s hrun, windowEval_eq, BitVec.ofNat_toNat]
  refine ⟨fun hempty hlost => ?_, fun hempty hlost => ?_, fun hframes hlocked => ?_, fun hframes hlocked => ?_⟩
  · simp [hempty, hlost]
  · simp [hempty, hlost]
  · rw [if_neg hframes, if_pos hlocked]
  · rw [if_neg hframes, if_neg hlocked]

/-! ### Operations that leave the connection alone -/

/-- `connState` is the same in both states, and no transition of it has been announced. -/
structure ConnectionKept (s t : State) : Prop where
  state : t.connState = s.connState
  lost : t.out.count .connLost = s.out.count .connLost
  restored : t.out.count .connRestored = s.out.count .connRestored

theorem ConnectionKept.of_eq (hstate : t.connState = s.connState) (hout : t.out = s.out) : ConnectionKept s t :=
  ⟨hstate, by rw [hout], by rw [hout]⟩

theorem ConnectionKept.refl (s : State) : ConnectionKept s s := .of_eq rfl rfl

theorem ConnectionKept.guarded {f : State → State} (hf : ConnectionKept s (f s)) : ConnectionKept s (whenRunning f s) :=
  whenRunning_keeps (.refl s) fun _ => hf

/-- `ConnLost` is the event of one error kind alone (60_exceptions.md R240). -/
theorem count_connLost_events (k : ErrorKind) : k.events.count .connLost = if k = .connectionLost then 1 else 0 := by
  cases k <;> rfl

/-- `ConnRestored` is no error (60_exceptions.md R240). -/
theorem count_connRestored_events (k : ErrorKind) : k.events.count .connRestored = 0 := by
  cases k <;> rfl

/-- To record any other error is not to lose the connection (60_exceptions.md R241). -/
theorem ConnectionKept.raise (h : ConnectionKept s t) {k : ErrorKind} (hk : k ≠ .connectionLost) :
    ConnectionKept s (raise k t) where
  state := h.state
  lost := by rw [Machine.raise, List.count_append, count_connLost_events, if_neg hk, Nat.add_zero, h.lost]
  restored := by rw [Machine.raise, List.count_append, count_connRestored_events, Nat.add_zero, h.restored]

theorem ConnectionKept.ovfRecover (h : ConnectionKept s t) : ConnectionKept s (ovfRecover t) := by
  rw [ovfRecover_rec]; exact { h with }

theorem reject_keeps_connection : ConnectionKept s (reject s) :=
  { (ConnectionKept.refl s).raise (k := .invalidFrame) nofun with }

theorem txDone_keeps_connection :
    ConnectionKept s (if s.run = true ∧ s.dir = .transmittingFrom then armReceive s else ignoreEvent s) := by
  split_ifs
  · exact .of_eq rfl rfl
  · exact .refl s

theorem stopBlock_keeps_connection : ConnectionKept s (stopBlock s) := .of_eq rfl rfl

theorem regWrite_keeps_connection {n : BitVec 6} (d : BitVec 16) (hn : n ≠ 0) : ConnectionKept s (regWrite n d s) := by
  rw [regWrite, if_neg hn]
  split_ifs <;> exact .of_eq rfl rfl

theorem htTableWrite_keeps_connection (i : BitVec 6) (j : BitVec 2) (d : BitVec 16) :
    ConnectionKept s (htTableWrite Config.params i j d s) := by
  unfold htTableWrite
  split_ifs
  · exact .of_eq rfl rfl
  · exact .refl s

/-! ### Operations that may move the connection -/

/-- The connection starts anew, without an announcement (45_system_ops.md R221, R227). -/
structure Restarted (s t : State) : Prop where
  state : t.connState = .syncing
  timer : t.hopTimer = 500
  out : t.out = s.out

theorem start_keeps_connection_or_restarts :
    ConnectionKept s (if s.run then ignoreEvent s else startBlock s) ∨
      Restarted s (if s.run then ignoreEvent s else startBlock s) := by
  split_ifs
  · exact .inl (.refl s)
  · exact .inr ⟨rfl, rfl, rfl⟩

theorem ctrlWrite_keeps_connection_or_restarts (b : Bool) :
    ConnectionKept s (ctrlWrite b s) ∨ Restarted s (ctrlWrite b s) := by
  unfold ctrlWrite
  split_ifs
  · exact .inr ⟨rfl, rfl, rfl⟩
  · exact .inl stopBlock_keeps_connection
  · exact .inl (.refl s)

theorem rxDone_keeps_connection_or_accepts :
    ConnectionKept s (rxDone Config.params s) ∨ rxDone Config.params s = accept Config.params s := by
  unfold rxDone
  split_ifs
  · exact .inr rfl
  · exact .inl reject_keeps_connection
  · exact .inl (.refl s)

theorem tick_keeps_connection_or_hops :
    ConnectionKept s (tick Config.params s) ∨ tick Config.params s = hop Config.params s := by
  rw [tick_eq]
  split_ifs
  · exact .inr (hop_hopTimer 0)
  · exact .inl (.of_eq rfl rfl)

/-- An operation that has an encoding leaves the connection alone, starts it anew, accepts a frame or is a hop event. -/
theorem exec_keeps_connection_or_moves (hi : i.encodable = true) (hx : exec i s = .next t) :
    ConnectionKept s t ∨ ((i = .reset ∨ i = .start ∨ ∃ d, i = .regWr 0 d) ∧ Restarted s t) ∨
      (i = .rxDone ∧ t = accept Config.params s) ∨ (i = .tick ∧ t = hop Config.params s) := by
  cases i <;> cases hx
  case reset => exact .inr (.inl ⟨.inl rfl, rfl, rfl, rfl⟩)
  case start => exact start_keeps_connection_or_restarts.imp_right fun h => .inl ⟨.inr (.inl rfl), h⟩
  case regWr n d =>
    by_cases hn : n = 0
    · subst hn
      exact (ctrlWrite_keeps_connection_or_restarts _).imp_right fun h => .inl ⟨.inr (.inr ⟨d, rfl⟩), h⟩
    · exact .inl (regWrite_keeps_connection d hn)
  case rxDone => exact rxDone_keeps_connection_or_accepts.imp_right fun h => .inr (.inl ⟨rfl, h⟩)
  case tick =>
    have htick : ConnectionKept s (whenRunning (tick Config.params) s) ∨
        whenRunning (tick Config.params) s = hop Config.params s :=
      whenRunning_keeps (P := fun u => ConnectionKept s u ∨ u = hop Config.params s) (.inl (.refl s)) fun _ =>
        tick_keeps_connection_or_hops
    exact htick.imp_right fun h => .inr (.inr ⟨rfl, h⟩)
  case ovfRx => exact .inl (.guarded ((ConnectionKept.refl s).raise (k := .radioOverflowRx) nofun).ovfRecover)
  case ovfTx => exact .inl (.guarded ((ConnectionKept.refl s).raise (k := .radioOverflowTx) nofun).ovfRecover)
  case ovfBoth =>
    have hrx : ConnectionKept s (raise .radioOverflowRx s) := (ConnectionKept.refl s).raise nofun
    exact .inl (.guarded (hrx.raise (k := .radioOverflowTx) nofun).ovfRecover)
  case txDone => exact .inl txDone_keeps_connection
  case htWr i j d => exact .inl (htTableWrite_keeps_connection i j d)
  case stop => exact .inl (.guarded stopBlock_keeps_connection)
  case regRd | validate | decodeCh | decodeRssi | encodeTlm | hubStuff => exact .inl (.of_eq rfl rfl)
  all_goals cases hi

/-! ### What an accepted frame and a hop event do to the connection -/

theorem accept_connState : (accept Config.params s).connState = .locked := by rw [accept_rec]

theorem accept_hopTimer_of_unlocked (h : s.connState ≠ .locked) : (accept Config.params s).hopTimer = 9 := by
  rw [accept_rec]; exact if_neg h

/-- An accepted frame loses no connection. -/
theorem accept_count_connLost : (accept Config.params s).out.count .connLost = s.out.count .connLost := by
  rw [accept_rec]
  simp [apply_ite (List.count OutEvent.connLost)]

/-- An accepted frame announces that it locks (43_loss_detector.md R182). -/
theorem accept_count_connRestored :
    (accept Config.params s).out.count .connRestored =
      s.out.count .connRestored + if s.connState ≠ .locked then 1 else 0 := by
  rw [accept_rec]
  simp [apply_ite (List.count OutEvent.connRestored)]

/-- The count of hop events reaches the window's length from 99 (40_hop_scheduler.md R125). -/
theorem hopCounter_closes_iff (c : BitVec 7) : c + 1 = 100 ↔ c = 99 := by
  constructor <;> intro h <;> bv_omega

/-- Only a hop event that closes a window moves the connection (43_loss_detector.md R183). -/
theorem hop_connState :
    (hop Config.params s).connState =
      if s.hopCounter = 99 then (if s.rxCount = 0 then .lost else .locked) else s.connState := by
  rw [hop_rec]
  simp only [hopCounter_closes_iff]

/-- The interval law (40_hop_scheduler.md R122), after the window has been judged. -/
theorem hop_hopTimer_eq_interval : (hop Config.params s).hopTimer = hopInterval (hop Config.params s).connState := by
  rw [hop_rec]

theorem hop_count_connLost :
    (hop Config.params s).out.count .connLost =
      s.out.count .connLost + if s.hopCounter = 99 ∧ s.rxCount = 0 ∧ s.connState ≠ .lost then 1 else 0 := by
  rw [hop_rec]
  simp only [hopCounter_closes_iff]
  simp [apply_ite (List.count OutEvent.connLost)]

theorem hop_count_connRestored :
    (hop Config.params s).out.count .connRestored =
      s.out.count .connRestored + if s.hopCounter = 99 ∧ s.rxCount ≠ 0 ∧ s.connState ≠ .locked then 1 else 0 := by
  rw [hop_rec]
  simp only [hopCounter_closes_iff]
  simp [apply_ite (List.count OutEvent.connRestored)]

/-! ### The transitions -/

/-- While the invariants hold, a hop event changes `connState` only by closing an empty window: a window with frames was already
`Locked` (10_state.md R45 (e)). -/
theorem Inv.closes_empty_of_hop_moves (h : Inv s) (hne : (hop Config.params s).connState ≠ s.connState) :
    s.hopCounter = 99 ∧ s.rxCount = 0 := by
  rw [hop_connState] at hne
  split_ifs at hne with hcloses hempty
  · exact ⟨hcloses, hempty⟩
  · exact absurd (h.locked hempty).symm hne
  · exact absurd rfl hne

/-- Settles O18, by what moves the connection. -/
theorem connectionTransitions : Obligations.ConnectionTransitions := by
  intro i s t h hi hx hne
  obtain hkept | ⟨hwriter, hrestart⟩ | ⟨rfl, rfl⟩ | ⟨rfl, rfl⟩ := exec_keeps_connection_or_moves hi hx
  · exact absurd hkept.state hne
  · exact .inl ⟨hrestart.state, hwriter, hrestart.timer⟩
  · have hunlocked : s.connState ≠ .locked := fun hlocked => hne (accept_connState.trans hlocked.symm)
    exact .inr (.inl ⟨accept_connState, rfl, accept_hopTimer_of_unlocked hunlocked⟩)
  · obtain ⟨hcloses, hempty⟩ := h.closes_empty_of_hop_moves hne
    have hlost : (hop Config.params s).connState = .lost := by rw [hop_connState, if_pos hcloses, if_pos hempty]
    exact .inr (.inr ⟨hlost, rfl, hcloses, hempty, by rw [hop_hopTimer_eq_interval, hlost]; rfl⟩)

/-! ### The announcements -/

/-- From `s` to `t` the two transitions that R185 announces are announced, each once, and no other. -/
structure Announced (s t : State) : Prop where
  lost : t.out.count .connLost = s.out.count .connLost + if t.connState = .lost ∧ s.connState ≠ .lost then 1 else 0
  restored :
    t.out.count .connRestored =
      s.out.count .connRestored + if t.connState = .locked ∧ s.connState ≠ .locked then 1 else 0

theorem ConnectionKept.announced (h : ConnectionKept s t) : Announced s t where
  lost := by rw [h.lost, h.state, if_neg and_not_self, Nat.add_zero]
  restored := by rw [h.restored, h.state, if_neg and_not_self, Nat.add_zero]

theorem Restarted.announced (h : Restarted s t) : Announced s t where
  lost := by simp [h.out, h.state]
  restored := by simp [h.out, h.state]

theorem accept_announced : Announced s (accept Config.params s) where
  lost := by simp [accept_count_connLost, accept_connState]
  restored := by simp [accept_count_connRestored, accept_connState]

/-- The window's verdict is announced when it differs from what the block held (43_loss_detector.md R183). -/
theorem hop_announced : Announced s (hop Config.params s) where
  lost := by
    rw [hop_count_connLost, hop_connState]
    by_cases hcloses : s.hopCounter = 99
    · by_cases hempty : s.rxCount = 0 <;> simp [hcloses, hempty]
    · simp only [hcloses, if_false, false_and, and_not_self]
  restored := by
    rw [hop_count_connRestored, hop_connState]
    by_cases hcloses : s.hopCounter = 99
    · by_cases hempty : s.rxCount = 0 <;> simp [hcloses, hempty]
    · simp only [hcloses, if_false, false_and, and_not_self]

/-- Settles O19, by what moves the connection. -/
theorem lossAndRestoreAnnouncedOnTransition : Obligations.LossAndRestoreAnnouncedOnTransition := by
  intro i s t _ hi hx
  suffices h : Announced s t from ⟨h.lost, h.restored⟩
  obtain hkept | ⟨_, hrestart⟩ | ⟨_, rfl⟩ | ⟨_, rfl⟩ := exec_keeps_connection_or_moves hi hx
  · exact hkept.announced
  · exact hrestart.announced
  · exact accept_announced
  · exact hop_announced

/-! ### A silence -/

/-- A running block in whose window no frame has been counted and for which no reply is requested. -/
structure Silent (s : State) : Prop where
  run : s.run = true
  uncounted : s.rxCount = 0
  unseen : s.pktSeen = false
  unrequested : s.tlmPending = false
  hops : s.hopCounter.toNat ≤ 99
  index : s.channelIndex.toNat < 47

theorem hop_channelIndex_toNat : (hop Config.params s).channelIndex.toNat = (s.channelIndex.toNat + 1) % 47 := by
  rw [hop_rec]; exact nextIndex_params_toNat _ _

theorem hop_hopCounter_toNat (h : s.hopCounter.toNat ≤ 99) :
    (hop Config.params s).hopCounter.toNat = (s.hopCounter.toNat + 1) % 100 := by
  rw [hop_rec]
  simp only [hopCounter_closes_iff]
  split_ifs with hcloses
  · rw [hcloses]; rfl
  · bv_omega

/-- An empty interval is a miss (43_loss_detector.md R181). -/
theorem hop_missedCount_toNat (h : s.pktSeen = false) :
    (hop Config.params s).missedCount.toNat = min (s.missedCount.toNat + 1) 65535 := by
  rw [hop_rec]
  exact (missedCount_toNat _ _).trans (if_neg (by simp [h]))

/-- A hop event does not end the silence. -/
theorem Silent.after_hop (h : Silent s) : Silent (hop Config.params s) where
  run := by rw [hop_rec]; exact h.run
  uncounted := by rw [hop_rec]; simp [h.uncounted]
  unseen := by rw [hop_rec]
  unrequested := by rw [hop_rec]
  hops := by rw [hop_hopCounter_toNat h.hops]; omega
  index := by rw [hop_channelIndex_toNat]; omega

/-- Where `m` hop events of a silence lead from `s` to `t`: the window of `s` has `100 - hopCounter` of them left, and when it
closes the connection is lost, once (43_loss_detector.md R186). -/
structure SilentFor (m : Nat) (s t : State) : Prop where
  silent : Silent t
  index : t.channelIndex.toNat = (s.channelIndex.toNat + m) % 47
  hops : t.hopCounter.toNat = (s.hopCounter.toNat + m) % 100
  misses : t.missedCount.toNat = min (s.missedCount.toNat + m) 65535
  waiting : m < 100 - s.hopCounter.toNat →
    t.connState = s.connState ∧ t.out.count .connLost = s.out.count .connLost
  declared : 100 - s.hopCounter.toNat ≤ m →
    t.connState = .lost ∧ t.out.count .connLost = s.out.count .connLost + 1

theorem Silent.silentFor_zero (h : Silent s) : SilentFor 0 s s where
  silent := h
  index := (Nat.mod_eq_of_lt h.index).symm
  hops := (Nat.mod_eq_of_lt (by have := h.hops; omega)).symm
  misses := by have := s.missedCount.isLt; omega
  waiting := fun _ => ⟨rfl, rfl⟩
  declared := fun hm => by have := h.hops; omega

/-- In a silence the connection is lost where a window closes, and nowhere else moved. -/
theorem hop_connState_of_silent (h : Silent s) :
    (hop Config.params s).connState = if s.hopCounter = 99 then .lost else s.connState := by
  rw [hop_connState, if_pos h.uncounted]

theorem hop_count_connLost_of_silent (h : Silent s) :
    (hop Config.params s).out.count .connLost =
      s.out.count .connLost + if s.hopCounter = 99 ∧ s.connState ≠ .lost then 1 else 0 := by
  simp only [hop_count_connLost, h.uncounted, true_and]

/-- One hop event more: before the window's last one nothing happens, that one declares the loss, and a lost block stays lost
without another word. -/
theorem SilentFor.succ {m : Nat} (hs : s.connState ≠ .lost) (h : SilentFor m s t) :
    SilentFor (m + 1) s (hop Config.params t) where
  silent := h.silent.after_hop
  index := by rw [hop_channelIndex_toNat, h.index]; omega
  hops := by rw [hop_hopCounter_toNat h.silent.hops, h.hops]; omega
  misses := by rw [hop_missedCount_toNat h.silent.unseen, h.misses]; omega
  waiting := fun hm => by
    obtain ⟨hstate, hcount⟩ := h.waiting (by omega)
    have hhops := h.hops
    have hopen : t.hopCounter ≠ 99 := by bv_omega
    rw [hop_connState_of_silent h.silent, hop_count_connLost_of_silent h.silent]
    simp only [hopen, if_false, false_and, hstate, hcount, Nat.add_zero, and_self]
  declared := fun hm => by
    rw [hop_connState_of_silent h.silent, hop_count_connLost_of_silent h.silent]
    by_cases hlast : m + 1 = 100 - s.hopCounter.toNat
    · obtain ⟨hstate, hcount⟩ := h.waiting (by omega)
      have hhops := h.hops
      have hcloses : t.hopCounter = 99 := by bv_omega
      simp [hcloses, hstate, hcount, hs]
    · obtain ⟨hstate, hcount⟩ := h.declared (by omega)
      simp [hstate, hcount]

/-- A silence of any length. -/
theorem exists_silentFor (hs : s.connState ≠ .lost) (h : Silent s) (m : Nat) :
    ∃ t, execTimes .hop m s = .next t ∧ SilentFor m s t := by
  induction m with
  | zero => exact ⟨s, rfl, h.silentFor_zero⟩
  | succ m ih =>
    obtain ⟨t, hm, ht⟩ := ih
    refine ⟨hop Config.params t, ?_, ht.succ hs⟩
    rw [execTimes_succ_of_execTimes hm, exec_hop, whenRunning_of_run t ht.silent.run]

/-- Settles O20, by induction over the hop events. -/
theorem emptyWindowDeclaresLostOnce : Obligations.EmptyWindowDeclaresLostOnce := by
  intro s m hrun hcount hseen hreq hhops hindex hlost
  obtain ⟨t, hm, h⟩ := exists_silentFor hlost ⟨hrun, hcount, hseen, hreq, hhops, hindex⟩ m
  exact ⟨t, hm, h.index, h.hops, h.misses, h.waiting, h.declared⟩

end Sys2Proof.Machine
end

section
/-! The telemetry slot arbiter of 44_telemetry_arbiter.md: its four operations (O34, O35, O37, O38), the acknowledgement of a hub
payload (O36), and that a transmission is armed exactly where a hop event finds a request (O39). -/

namespace Sys2Proof.Machine

variable {s t : State} {i : Instr} {p : Params}

/-! ### `TLM_LATCH`, `TX_DONE` and `TX_TIMEOUT` -/

/-- Settles O34, by the two cases of `tlmLatch_eq`. -/
theorem tlmLatchEffect : Obligations.TlmLatchEffect := by
  intro s hrun
  rw [exec_tlmLatch, whenRunning_of_run s hrun, tlmLatch_eq]
  exact ⟨fun hasks => by rw [if_pos hasks], fun hsilent => by rw [if_neg hsilent]⟩

/-- Settles O37: an expected completion re-arms the reception, any other is dropped. -/
theorem txDoneEffect : Obligations.TxDoneEffect := by
  intro s
  rw [exec_txDone]
  refine ⟨fun hrun hdir => by rw [if_pos ⟨hrun, hdir⟩, armReceive_eq], fun hdropped => ?_⟩
  have hunexpected : ¬ (s.run = true ∧ s.dir = .transmittingFrom) := by
    simpa [or_iff_not_imp_left] using hdropped
  rw [if_neg hunexpected, ignoreEvent_eq]

/-- Settles O38: the operation is the recording of its error and nothing else. -/
theorem txTimeoutEffect : Obligations.TxTimeoutEffect := by
  intro s hrun
  rw [exec_txTimeout, whenRunning_of_run s hrun, txTimeout, raise_eq]
  rfl

/-! ### `TLM_OPEN` -/

/-- The buffer holds the reply (44_telemetry_arbiter.md R203 line 1). -/
theorem pktFrame_tlmOpen (p : Params) (s : State) : pktFrame (tlmOpen p s) = (tlmReply p s).1 := by
  rw [pktFrame_congr (tlmOpen_pkt s p), pktFrame_storeFrame]

/-- `pktFrame_tlmOpen`, byte by byte. -/
theorem pktRead_tlmOpen_of_lt (p : Params) (s : State) {a : Nat} (ha : a < 20) :
    pktRead (tlmOpen p s) a = (tlmReply p s).1[a] := by
  rw [← getElem_pktFrame _ a ha]
  simp only [pktFrame_tlmOpen]

theorem pktRead_tlmOpen_of_le (p : Params) (s : State) {a : Nat} (ha : 20 ≤ a) :
    pktRead (tlmOpen p s) a = pktRead s a := by
  rw [pktRead_congr (tlmOpen_pkt s p), pktRead_storeFrame_of_le _ ha]

/-- Settles O35: the buffer by the reply of this hardware, the registers by `tlmOpen_eq`. -/
theorem tlmOpenEffect : Obligations.TlmOpenEffect := by
  intro s hrun
  refine ⟨tlmOpen Config.params s, by rw [exec_tlmOpen, whenRunning_of_run s hrun], ?_,
    fun _ ha => pktRead_tlmOpen_of_le _ s ha, ?_⟩
  · rw [pktFrame_tlmOpen, tlmReply, encodeTelemetry_params]
  · rw [tlmOpen_eq s Config.params_hubTlmEn]

/-! ### The hub payload -/

/-- Hub telemetry is carried by extended telemetry (93_implementation_defined.md U10). -/
theorem extTlmEn_of_legal (hp : p.legal = true) (hhub : p.hubTlmEn = true) : p.extTlmEn = true := by
  simp only [Params.legal, Bool.and_eq_true] at hp
  obtain ⟨_, hext⟩ := hp
  simpa [hhub] using hext

/-- Under hub telemetry the reply takes at most ten of the payload bytes offered (30_encoding.md R94). -/
theorem tlmReply_length_toNat (hhub : p.hubTlmEn = true) : (tlmReply p s).2.toNat = min s.inputs.hubLen.toNat 10 :=
  (hubLength_toNat p s.inputs.hubLen).trans (if_pos hhub)

/-- Settles O36: bytes 6 to 17 of the reply are those of `ENCODE_TLM`, under the length taken. -/
theorem hubAckEffect : Obligations.HubAckEffect := by
  intro p s hp hhub
  have hext := extTlmEn_of_legal hp hhub
  have htaken : (tlmReply p s).2.toNat = min s.inputs.hubLen.toNat 10 := tlmReply_length_toNat hhub
  obtain ⟨_, _, _, _, _, _, _, hlength, htid, hpayload, _, _⟩ :=
    (encodeTlmEffect.2 s.tlmId s.inputs.adc0 s.inputs.adc1 s.rssi s.txid0 s.txid1 s.inputs.hubLen s.inputs.hubData).2 p hp
  rw [if_pos hext] at hlength htid
  refine ⟨?_, ?_, (pktRead_tlmOpen_of_lt p s (by decide)).trans htid, fun j => ?_⟩
  · rw [tlmOpen_out, if_pos hhub, ← htaken, BitVec.ofNat_toNat, BitVec.setWidth_eq]
  · apply BitVec.eq_of_toNat_eq
    rw [pktRead_tlmOpen_of_lt p s (by decide), ← htaken, BitVec.toNat_ofNat, Nat.mod_eq_of_lt (by omega)]
    exact hlength
  · have hj : j.val < (tlmReply p s).2.toNat ↔ j.val < s.inputs.hubLen.toNat := by
      have := j.isLt
      omega
    rw [pktRead_tlmOpen_of_lt p s (by omega)]
    refine (hpayload j).trans ?_
    exact if_congr hj rfl rfl

/-! ### Operations that leave the request alone -/

/-- Commands other than `ARM_TX` do not change the number of transmissions armed. -/
theorem count_armTx_append {cs : List RadioCmd} (h : .armTx ∉ cs) (l : List RadioCmd) :
    (l ++ cs).count .armTx = l.count .armTx := by
  rw [List.count_append, List.count_eq_zero_of_not_mem h, Nat.add_zero]

/-- `tlmPending` is the same in both states, and no transmission has been armed. -/
structure RequestKept (s t : State) : Prop where
  pending : t.tlmPending = s.tlmPending
  armed : t.radio.count .armTx = s.radio.count .armTx

theorem RequestKept.of_append {cs : List RadioCmd} (hpending : t.tlmPending = s.tlmPending) (hradio : t.radio = s.radio ++ cs)
    (hcs : .armTx ∉ cs) : RequestKept s t :=
  ⟨hpending, by rw [hradio, count_armTx_append hcs]⟩

theorem RequestKept.of_eq (hpending : t.tlmPending = s.tlmPending) (hradio : t.radio = s.radio) : RequestKept s t :=
  ⟨hpending, by rw [hradio]⟩

theorem RequestKept.refl (s : State) : RequestKept s s := .of_eq rfl rfl

theorem RequestKept.guarded {f : State → State} (hf : RequestKept s (f s)) : RequestKept s (whenRunning f s) :=
  whenRunning_keeps (.refl s) fun _ => hf

theorem RequestKept.trans {u : State} (h : RequestKept s t) (h' : RequestKept t u) : RequestKept s u :=
  ⟨h'.pending.trans h.pending, h'.armed.trans h.armed⟩

theorem raise_keeps_request (k : ErrorKind) : RequestKept s (raise k s) := .of_eq rfl rfl

theorem armReceive_keeps_request : RequestKept s (armReceive s) := .of_append rfl rfl (by simp)

theorem ovfRecover_keeps_request : RequestKept s (ovfRecover s) := by
  rw [ovfRecover_rec]
  exact .of_append rfl rfl (by split_ifs <;> simp)

theorem reject_keeps_request : RequestKept s (reject s) := .of_append rfl rfl (by simp)

theorem txDone_keeps_request :
    RequestKept s (if s.run = true ∧ s.dir = .transmittingFrom then armReceive s else ignoreEvent s) := by
  split_ifs
  · exact armReceive_keeps_request
  · exact .refl s

theorem stopBlock_keeps_request : RequestKept s (stopBlock s) := .of_append rfl rfl (by simp)

theorem regWrite_keeps_request {n : BitVec 6} (d : BitVec 16) (hn : n ≠ 0) : RequestKept s (regWrite n d s) := by
  rw [regWrite, if_neg hn]
  split_ifs <;> exact .of_eq rfl rfl

theorem htTableWrite_keeps_request (i : BitVec 6) (j : BitVec 2) (d : BitVec 16) :
    RequestKept s (htTableWrite Config.params i j d s) := by
  unfold htTableWrite
  split_ifs
  · exact .of_eq rfl rfl
  · exact .refl s

/-! ### Operations that may drop, make or serve a request -/

/-- `tlmPending` is `b` afterwards, whatever it was, and no transmission has been armed. -/
structure RequestBecomes (b : Bool) (s t : State) : Prop where
  pending : t.tlmPending = b
  armed : t.radio.count .armTx = s.radio.count .armTx

theorem startBlock_drops_request : RequestBecomes false s (startBlock s) where
  pending := rfl
  armed := by rw [startBlock_eq]; exact count_armTx_append (by simp) _

theorem start_keeps_or_drops_request :
    RequestKept s (if s.run then ignoreEvent s else startBlock s) ∨
      RequestBecomes false s (if s.run then ignoreEvent s else startBlock s) := by
  split_ifs
  · exact .inl (.refl s)
  · exact .inr startBlock_drops_request

theorem ctrlWrite_keeps_or_drops_request (b : Bool) : RequestKept s (ctrlWrite b s) ∨ RequestBecomes false s (ctrlWrite b s) := by
  unfold ctrlWrite
  split_ifs
  · exact .inr startBlock_drops_request
  · exact .inl stopBlock_keeps_request
  · exact .inl (.refl s)

/-- An accepted frame latches a request or leaves the one there is (44_telemetry_arbiter.md R201). -/
theorem accept_keeps_or_makes_request :
    RequestKept s (accept Config.params s) ∨ RequestBecomes true s (accept Config.params s) := by
  rw [accept_rec]
  by_cases hasks : (pktRead s 3).toNat % 4 = 2
  · exact .inr ⟨if_pos hasks, rfl⟩
  · exact .inl ⟨if_neg hasks, rfl⟩

theorem rxDone_keeps_or_makes_request :
    RequestKept s (rxDone Config.params s) ∨ RequestBecomes true s (rxDone Config.params s) := by
  unfold rxDone
  split_ifs
  · exact accept_keeps_or_makes_request
  · exact .inl reject_keeps_request
  · exact .inl (.refl s)

/-- A hop event arms one transmission if it finds a request, and none otherwise (40_hop_scheduler.md R123 line 9). -/
theorem hop_count_armTx :
    (hop Config.params s).radio.count .armTx = s.radio.count .armTx + if s.tlmPending then 1 else 0 := by
  rw [hop_rec]
  simp only [List.count_append, tuneCmd]
  cases s.tlmPending <;> simp

theorem hop_tlmPending : (hop Config.params s).tlmPending = false := by rw [hop_rec]

theorem hop_dir_of_requested (hreq : s.tlmPending = true) : (hop Config.params s).dir = .transmittingFrom := by
  rw [hop_rec]; exact if_pos hreq

theorem hop_keeps_request_of_unrequested (hreq : s.tlmPending = false) : RequestKept s (hop Config.params s) where
  pending := hop_tlmPending.trans hreq.symm
  armed := by simp [hop_count_armTx, hreq]

/-- The operation is the `TICK` that causes the hop event of a running block with a request (44_telemetry_arbiter.md R206). -/
structure ServesRequest (i : Instr) (s : State) : Prop where
  tick : i = .tick
  run : s.run = true
  timer : s.hopTimer = 1
  requested : s.tlmPending = true

theorem ServesRequest.exec_eq (h : ServesRequest i s) : exec i s = .next (hop Config.params s) := by
  rw [h.tick, exec_tick, whenRunning_of_run s h.run, tick_eq, if_pos h.timer, hop_hopTimer]

/-- Any other `TICK` counts down, hops without a request or finds the block halted. -/
theorem tick_keeps_request_of_not_serves (h : ¬ ServesRequest .tick s) :
    RequestKept s (whenRunning (tick Config.params) s) := by
  refine whenRunning_keeps (.refl s) fun hrun => ?_
  rw [tick_eq]
  split_ifs with htimer
  · have hreq : s.tlmPending = false := Bool.eq_false_iff.mpr fun hreq => h ⟨rfl, hrun, htimer, hreq⟩
    rw [hop_hopTimer]
    exact hop_keeps_request_of_unrequested hreq
  · exact .of_eq rfl rfl

/-- An operation that has an encoding and serves no request leaves the request alone, or is one of its four writers. -/
theorem exec_keeps_request_or_writes (hi : i.encodable = true) (hserves : ¬ ServesRequest i s) (hx : exec i s = .next t) :
    RequestKept s t ∨ ((i = .start ∨ i = .reset ∨ ∃ d, i = .regWr 0 d) ∧ RequestBecomes false s t) ∨
      (i = .rxDone ∧ RequestBecomes true s t) := by
  cases i <;> cases hx
  case reset => exact .inr (.inl ⟨.inr (.inl rfl), rfl, rfl⟩)
  case start => exact start_keeps_or_drops_request.imp_right fun h => .inl ⟨.inl rfl, h⟩
  case regWr n d =>
    by_cases hn : n = 0
    · subst hn
      exact (ctrlWrite_keeps_or_drops_request _).imp_right fun h => .inl ⟨.inr (.inr ⟨d, rfl⟩), h⟩
    · exact .inl (regWrite_keeps_request d hn)
  case rxDone => exact rxDone_keeps_or_makes_request.imp_right fun h => .inr ⟨rfl, h⟩
  case tick => exact .inl (tick_keeps_request_of_not_serves hserves)
  case ovfRx | ovfTx => exact .inl (.guarded ((raise_keeps_request _).trans ovfRecover_keeps_request))
  case ovfBoth =>
    exact .inl (.guarded (((raise_keeps_request _).trans (raise_keeps_request _)).trans ovfRecover_keeps_request))
  case txDone => exact .inl txDone_keeps_request
  case htWr i j d => exact .inl (htTableWrite_keeps_request i j d)
  case stop => exact .inl (.guarded stopBlock_keeps_request)
  case regRd | validate | decodeCh | decodeRssi | encodeTlm | hubStuff => exact .inl (.of_eq rfl rfl)
  all_goals cases hi

/-- Settles O39: the serving `TICK` is a hop event with a request; of the others, by what is left of the request. -/
theorem oneReplyPerRequest : Obligations.OneReplyPerRequest := by
  intro i s t hi hx serves
  have hiff : serves ↔ ServesRequest i s :=
    ⟨fun ⟨htick, hrun, htimer, hreq⟩ => ⟨htick, hrun, htimer, hreq⟩, fun h => ⟨h.tick, h.run, h.timer, h.requested⟩⟩
  rw [hiff]
  by_cases hserves : ServesRequest i s
  · obtain rfl : hop Config.params s = t := by
      rw [hserves.exec_eq] at hx
      cases hx
      rfl
    have harmed := hop_count_armTx (s := s)
    rw [if_pos hserves.requested] at harmed
    exact ⟨fun _ => ⟨harmed, hop_tlmPending, hop_dir_of_requested hserves.requested⟩, (absurd hserves ·),
      fun _ => .inl hserves.requested, (absurd hserves ·)⟩
  · refine ⟨(absurd · hserves), ?_⟩
    obtain hkept | ⟨hwriter, hdropped⟩ | ⟨rfl, hmade⟩ := exec_keeps_request_or_writes hi hserves hx
    · exact ⟨fun _ => hkept.armed, fun h => .inl (hkept.pending ▸ h), fun _ h _ _ _ => hkept.pending.trans h⟩
    · refine ⟨fun _ => hdropped.armed, fun h => by simp [hdropped.pending] at h, fun _ _ hstart hreset hctrl => ?_⟩
      obtain h | h | ⟨d, h⟩ := hwriter
      · exact absurd h hstart
      · exact absurd h hreset
      · exact absurd h (hctrl d)
    · exact ⟨fun _ => hmade.armed, fun _ => .inr rfl, fun _ _ _ _ _ => hmade.pending⟩

end Sys2Proof.Machine
end

section
/-! The host and system operations of 45_system_ops.md: `START` and `STOP` (O41, O42), a register write as one of them or as a
write of the configuration (O43), the table of register reads (O44), the hop table's write (O45), `RESET` (O46) and the purity of
the function port (O48). -/

namespace Sys2Proof.Machine

variable {s : State} {d : BitVec 16}

/-! ### `START` and `STOP` -/

theorem exec_start_of_halted (hrun : s.run = false) : exec .start s = .next (startBlock s) := by simp [hrun]

theorem exec_start_of_run (hrun : s.run = true) : exec .start s = .next s := by simp [hrun]

theorem exec_stop_of_run (hrun : s.run = true) : exec .stop s = .next (stopBlock s) := by simp [hrun]

theorem exec_stop_of_halted (hrun : s.run = false) : exec .stop s = .next s := by simp [hrun]

/-- `START` writes one byte of the buffer, the status byte (45_system_ops.md R221). -/
theorem pktRead_startBlock (s : State) (a : Nat) : pktRead (startBlock s) a = if a = 19 then 0 else pktRead s a :=
  pktRead_pktWrite s 19 0 a

/-- Settles O41: the buffer by its one write, the registers and the commands by `startBlock_eq`. -/
theorem startEffect : Obligations.StartEffect :=
  fun s => ⟨fun hrun => ⟨startBlock s, exec_start_of_halted hrun, pktRead_startBlock s, by rw [startBlock_eq]⟩,
    exec_start_of_run⟩

/-- Settles O42, by `stopBlock_eq`. -/
theorem stopEffect : Obligations.StopEffect :=
  fun s => ⟨fun hrun => by rw [exec_stop_of_run hrun, stopBlock_eq], exec_stop_of_halted⟩

/-! ### `REG_WR` -/

/-- Of a write of `CTRL`, only bit 0 counts (45_system_ops.md R223). -/
theorem regWrite_ctrl (d : BitVec 16) (s : State) : regWrite 0 d s = ctrlWrite (decide (d.toNat % 2 = 1)) s := by
  rw [← getLsbD_zero_eq]; rfl

/-- A write of `CTRL` with bit 0 set does what `START` does, in either mode (45_system_ops.md R223). -/
theorem exec_regWr_ctrl_odd (hd : d.toNat % 2 = 1) (s : State) : exec (.regWr 0 d) s = exec .start s := by
  rw [exec_regWr, regWrite_ctrl, decide_eq_true hd, exec_start]
  cases hrun : s.run <;> simp [ctrlWrite, hrun]

/-- A write of `CTRL` with bit 0 clear does what `STOP` does, in either mode (45_system_ops.md R223). -/
theorem exec_regWr_ctrl_even (hd : d.toNat % 2 = 0) (s : State) : exec (.regWr 0 d) s = exec .stop s := by
  rw [exec_regWr, regWrite_ctrl, decide_eq_false (by omega), exec_stop]
  cases hrun : s.run <;> simp [ctrlWrite, hrun]

theorem regWrite_txid_of_halted (hrun : s.run = false) (d : BitVec 16) :
    regWrite 1 d s =
      { s with txid0 := BitVec.ofNat 8 (d.toNat % 256), txid1 := BitVec.ofNat 8 (d.toNat / 256) } := by
  simp [regWrite, hrun, lowByte_eq, highByte_eq]

theorem regWrite_freqOffset_of_halted (hrun : s.run = false) (d : BitVec 16) :
    regWrite 2 d s = { s with freqOffset := BitVec.ofNat 8 (d.toNat % 256) } := by
  simp [regWrite, hrun, lowByte_eq]

/-- A running block keeps its identity and frequency offset: only a write of `CTRL` reaches it (45_system_ops.md R223). -/
theorem regWrite_of_run_of_ne_ctrl (hrun : s.run = true) {n : BitVec 6} (hn : n ≠ 0) (d : BitVec 16) : regWrite n d s = s := by
  rw [regWrite_of_run hrun]
  exact if_neg fun hctrl => hn hctrl.1

/-- Registers from 3 on are not writable (10_state.md R42). -/
theorem regWrite_of_three_le {n : BitVec 6} (hn : 3 ≤ n.toNat) (d : BitVec 16) (s : State) : regWrite n d s = s := by
  have hne {m : BitVec 6} (hm : m.toNat < 3) : n ≠ m := by rintro rfl; omega
  rw [regWrite, if_neg (hne (by decide)), if_neg fun h => hne (by decide) h.1, if_neg fun h => hne (by decide) h.1]

/-- Settles O43: a write of `CTRL` is `START` or `STOP` by its bit 0, and those know the mode; the other registers one by one. -/
theorem regWrEffect : Obligations.RegWrEffect := by
  intro s d
  refine ⟨fun hrun hd => ?_, fun hrun hd => ?_, fun hrun hd => ?_, fun hrun hd => ?_, fun hrun => ?_, fun hrun => ?_,
    fun hrun => ?_, fun n hn => ?_⟩
  · exact ⟨_, exec_start_of_halted hrun, (exec_regWr_ctrl_odd hd s).trans (exec_start_of_halted hrun)⟩
  · exact ⟨_, exec_stop_of_run hrun, (exec_regWr_ctrl_even hd s).trans (exec_stop_of_run hrun)⟩
  · exact (exec_regWr_ctrl_odd hd s).trans (exec_start_of_run hrun)
  · exact (exec_regWr_ctrl_even hd s).trans (exec_stop_of_halted hrun)
  · rw [exec_regWr, regWrite_txid_of_halted hrun]
  · rw [exec_regWr, regWrite_freqOffset_of_halted hrun]
  · rw [exec_regWr, exec_regWr, regWrite_of_run_of_ne_ctrl hrun (by decide), regWrite_of_run_of_ne_ctrl hrun (by decide)]
    exact ⟨rfl, rfl⟩
  · rw [exec_regWr, regWrite_of_three_le hn]

/-! ### `REG_RD` -/

/-- A read writes the read port's output and nothing else (45_system_ops.md R224). -/
theorem exec_regRd_eq {n : BitVec 6} {v : BitVec 16} (h : regValue s n.toNat = v) :
    exec (.regRd n) s = .next { s with hrdata := v } := by
  rw [exec_regRd, h]

theorem regValue_ctrl (s : State) : regValue s 0 = if s.run then 1 else 0 := by
  simp only [regValue]
  cases s.run <;> rfl

/-- The identity register holds `TXID1` above `TXID0` (10_state.md R42). -/
theorem regValue_txid (s : State) : regValue s 1 = BitVec.ofNat 16 (256 * s.txid1.toNat + s.txid0.toNat) := by
  apply BitVec.eq_of_toNat_eq
  have hvalue : (regValue s 1).toNat = s.txid1.toNat * 256 + s.txid0.toNat := toNat_append_8_8 _ _
  have h0 := s.txid0.isLt
  have h1 := s.txid1.isLt
  rw [hvalue, BitVec.toNat_ofNat]
  omega

/-- The status register: two codes of two bits each, then the two flags (10_state.md R42). -/
theorem regValue_status (s : State) :
    regValue s 3 =
      BitVec.ofNat 16 (s.connState.code.toNat + 4 * s.dir.code.toNat + 16 * s.pktSeen.toNat + 32 * s.tlmPending.toNat) := by
  have hunlisted : (0 : BitVec 10).toNat = 0 := rfl
  have hconn := s.connState.code.isLt
  have hdir := s.dir.code.isLt
  have hseen := Bool.toNat_le s.pktSeen
  have hpending := Bool.toNat_le s.tlmPending
  apply BitVec.eq_of_toNat_eq
  simp only [regValue, toNat_append_eq, BitVec.toNat_ofBool, BitVec.toNat_ofNat]
  omega

/-- Past the single registers there are the eight channels and nothing else (10_state.md R42). -/
theorem regValue_of_thirteen_le (s : State) {n : Nat} (hn : 13 ≤ n) :
    regValue s n = if h : 16 ≤ n ∧ n < 24 then (chanValues s)[n - 16]'(by omega) else 0 := by
  obtain ⟨m, rfl⟩ := Nat.exists_eq_add_of_le' hn
  rfl

theorem regValue_channel (s : State) (k : Fin 8) : regValue s (16 + k.val) = BitVec.ofNat 16 s.chan[k].toNat := by
  have hk := k.isLt
  rw [regValue_of_thirteen_le s (by omega), dif_pos (by omega)]
  simp [chanValues]

theorem exec_regRd_channel (s : State) (k : Fin 8) :
    exec (.regRd (BitVec.ofNat 6 (16 + k.val))) s = .next { s with hrdata := BitVec.ofNat 16 s.chan[k].toNat } := by
  have hnumber : (BitVec.ofNat 6 (16 + k.val)).toNat = 16 + k.val := Nat.mod_eq_of_lt (by omega)
  exact exec_regRd_eq (by rw [hnumber, regValue_channel])

theorem regValue_reserved (s : State) {n : Nat} (hn : (13 ≤ n ∧ n ≤ 15) ∨ 24 ≤ n) : regValue s n = 0 := by
  rw [regValue_of_thirteen_le s (by omega), dif_neg (by omega)]

/-- Settles O44: the joined registers and the channels by their values as numbers, the others by definition. -/
theorem regRdTable : Obligations.RegRdTable := by
  intro s conn dir
  have hconn : s.connState.code.toNat = conn := by
    simp only [conn]
    cases s.connState <;> rfl
  have hdir : s.dir.code.toNat = dir := by
    simp only [dir]
    cases s.dir <;> rfl
  have hstatus := (regValue_status s).trans (by rw [hconn, hdir])
  have hplain {w : Nat} (x : BitVec w) : x.setWidth 16 = BitVec.ofNat 16 x.toNat := (BitVec.ofNat_toNat 16 x).symm
  exact ⟨exec_regRd_eq (regValue_ctrl s), exec_regRd_eq (regValue_txid s), exec_regRd_eq (hplain s.freqOffset),
    exec_regRd_eq hstatus, exec_regRd_eq (hplain s.channelIndex), exec_regRd_eq (hplain s.hopCounter),
    exec_regRd_eq (hplain s.rxCount), exec_regRd_eq (hplain s.linkQuality), exec_regRd_eq rfl,
    exec_regRd_eq (hplain s.rssi), exec_regRd_eq (hplain s.tlmId), exec_regRd_eq (hplain s.hopTimer),
    exec_regRd_eq (hplain s.err), exec_regRd_channel s, fun n hn => exec_regRd_eq (regValue_reserved s hn)⟩

/-! ### `HT_WR` -/

theorem htTableWrite_of_halted (hrun : s.run = false) {i : BitVec 6} (hi : i.toNat < 47) (j : BitVec 2) (d : BitVec 16) :
    htTableWrite Config.params i j d s = htWrite (4 * i.toNat + j.toNat) (BitVec.ofNat 8 (d.toNat % 256)) s := by
  rw [← lowByte_eq]
  exact if_pos ⟨hrun, hi⟩

/-- This hardware's table has 47 entries (45_system_ops.md R225). -/
theorem htTableWrite_of_le {i : BitVec 6} (hi : 47 ≤ i.toNat) (j : BitVec 2) (d : BitVec 16) (s : State) :
    htTableWrite Config.params i j d s = s :=
  if_neg fun hw => absurd hw.2 (Nat.not_lt.mpr hi)

/-- Settles O45: a write that takes place is one `htWrite`; a running block and an index past the table ignore it. -/
theorem htWrEffect : Obligations.HtWrEffect := by
  intro s i j d
  rw [exec_htWr]
  refine ⟨fun hrun hi => ⟨_, rfl, ?_⟩, fun hignored => ?_⟩
  · rw [htTableWrite_of_halted hrun hi]
    exact ⟨htRead_htWrite s _ _, rfl⟩
  · obtain hrun | hi := hignored
    · rw [htTableWrite_of_run hrun]
    · rw [htTableWrite_of_le hi]

/-! ### `RESET` -/

/-- `rst` overrides every other input of its sample (30_encoding.md R89). -/
theorem sampleOps_of_rst {smp : Sample} (hrst : smp.rst = true) : sampleOps smp = [.reset] := by
  rw [sampleOps, if_pos hrst]

theorem pktRead_resetBlock (s : State) (a : Nat) : pktRead (resetBlock s) a = 0 := rfl

/-- What `RESET` leaves alone it leaves alone twice, and the rest is the same from every state (45_system_ops.md R227). -/
theorem resetBlock_resetBlock (s : State) : resetBlock (resetBlock s) = resetBlock s := rfl

/-- Settles O46: the registers by definition, the second `RESET` by `resetBlock_resetBlock`. -/
theorem resetEffect : Obligations.ResetEffect :=
  ⟨fun _ => sampleOps_of_rst, fun s => ⟨resetBlock s, exec_reset s, pktRead_resetBlock s, rfl, by
    rw [exec_reset, resetBlock_resetBlock]⟩⟩

/-! ### The function port -/

/-- Settles O48: each unit's result is written out of its operands alone, and `setFnResult` writes nothing else. -/
theorem functionPortIsPure : Obligations.FunctionPortIsPure := by
  intro i hi
  obtain ⟨f, id0, id1, rfl⟩ | ⟨f, rfl⟩ | ⟨raw, rfl⟩ | ⟨tid, a0, a1, rs, id0, id1, nIn, d, rfl⟩ | ⟨sid, val, rfl⟩ := hi
  · exact ⟨_, fun s => exec_validate s f id0 id1⟩
  · exact ⟨_, fun s => exec_decodeCh s f⟩
  · exact ⟨_, fun s => exec_decodeRssi s raw⟩
  · exact ⟨_, fun s => exec_encodeTlm s tid a0 a1 rs id0 id1 nIn d⟩
  · exact ⟨_, fun s => exec_hubStuff s sid val⟩

end Sys2Proof.Machine
end

section
/-! The exceptions of 60_exceptions.md: the recovery `OVF_RECOVER` (O54), and the three overflow operations, which record their
errors and then recover once (O53). -/

namespace Sys2Proof.Machine

/-! ### `OVF_RECOVER` -/

/-- Settles O54, by the two cases of `ovfRecover_eq`. -/
theorem ovfRecoverEffect : Obligations.OvfRecoverEffect := by
  intro s hrun
  rw [exec_ovfRecover, whenRunning_of_run s hrun, ovfRecover_eq]
  exact ⟨fun hidle => congrArg _ (if_pos hidle), fun hbusy => congrArg _ (if_neg hbusy)⟩

/-! ### `OVF_RX`, `OVF_TX`, `OVF_BOTH` -/

theorem ovfRx_eq (s : State) :
    ovfRx s = ovfRecover { s with err := s.err ||| 0b000001, out := s.out ++ [.log 1] } := rfl

theorem ovfTx_eq (s : State) :
    ovfTx s = ovfRecover { s with err := s.err ||| 0b000010, out := s.out ++ [.log 2] } := rfl

/-- The two errors are recorded as one, in the order rx, tx (60_exceptions.md R246). -/
theorem ovfBoth_eq (s : State) :
    ovfBoth s = ovfRecover { s with err := s.err ||| 0b000011, out := s.out ++ [.log 1, .log 2] } := by
  have herr : s.err ||| 0b000001 ||| 0b000010 = s.err ||| 0b000011 := BitVec.or_assoc ..
  have hout : s.out ++ [.log 1] ++ [.log 2] = s.out ++ [.log 1, .log 2] := List.append_assoc ..
  rw [← herr, ← hout]
  rfl

/-- A halted block ignores the overflow status (60_exceptions.md R246, R247, R248). -/
theorem exec_overflow_of_halted {s : State} (hrun : s.run = false) :
    ∀ i ∈ [Instr.ovfRx, .ovfTx, .ovfBoth], exec i s = .next s := by
  intro i hi
  have hkind : i = .ovfRx ∨ i = .ovfTx ∨ i = .ovfBoth := by simpa using hi
  obtain rfl | rfl | rfl := hkind
  · rw [exec_ovfRx, whenRunning_of_halted s hrun]
  · rw [exec_ovfTx, whenRunning_of_halted s hrun]
  · rw [exec_ovfBoth, whenRunning_of_halted s hrun]

/-- Settles O53: the errors by the equation of each operation, then the recovery, which does not look at them. -/
theorem overflowEffect : Obligations.OverflowEffect := by
  refine ⟨fun s hrun => exec_overflow_of_halted hrun, fun s hrun => ⟨?_, ?_, ?_⟩⟩
  · rw [exec_ovfRx, whenRunning_of_run s hrun, ovfRx_eq, ovfRecover_rec]
  · rw [exec_ovfTx, whenRunning_of_run s hrun, ovfTx_eq, ovfRecover_rec]
  · rw [exec_ovfBoth, whenRunning_of_run s hrun, ovfBoth_eq, ovfRecover_rec]

end Sys2Proof.Machine
end

section
/-! Reset and hazards of 70_reset_and_hazards.md: every operation is total (O5), the reset state (O47), the events that are
dropped (O51), a buffer that has been consumed (O33), and two operations in one sample: a frame or a `tx_done` before the expiring tick
(O56, O57), a host command before the events (O58). -/

namespace Sys2Proof.Machine

variable {s t u : State} {i j : Instr} {tail : List Stimulus}

/-! ### Totality and the reset state -/

/-- What is fetched is either one operation, which is total, or already the next state. -/
theorem step_total (s : State) : ∃ t, step s = .next t := by
  cases hi : (fetch s).1 with
  | none => exact ⟨_, step_of_fetch_none (Prod.ext hi rfl)⟩
  | some i =>
    rw [step_of_fetch_some (Prod.ext hi rfl)]
    exact exec_total i _

/-- Settles O5, by `exec_total` and `step_total`. -/
theorem everyOperationIsTotal : Obligations.EveryOperationIsTotal :=
  fun s => ⟨fun i => exec_total i s, step_total s⟩

/-- Settles O47: the registers by definition, each of the channels as an entry of a constant vector. -/
theorem resetStateValues : Obligations.ResetStateValues :=
  ⟨rfl, rfl, rfl, rfl, rfl, rfl, rfl, rfl, rfl, rfl, rfl, fun k => Vector.getElem_replicate k.isLt,
    rfl, rfl, rfl, rfl, rfl, rfl, fun _ => rfl, rfl, rfl, rfl⟩

/-! ### Events that are dropped -/

theorem exec_rxDone_of_unexpected (h : ¬ (s.run = true ∧ s.dir = .receivingInto)) : exec .rxDone s = .next s := by
  rw [exec_rxDone, rxDone_of_unexpected h]

theorem exec_rxDone_of_valid (hrun : s.run = true) (hdir : s.dir = .receivingInto) (h : pktValid Config.params s = true) :
    exec .rxDone s = .next (accept Config.params s) := by
  rw [exec_rxDone, rxDone_of_valid hrun hdir h]

/-- A halted block drops every radio and timer event (60_exceptions.md R254). -/
theorem exec_event_of_halted (hrun : s.run = false) :
    ∀ i ∈ [Instr.tick, .ovfRx, .ovfTx, .ovfBoth, .rxDone, .txDone], exec i s = .next s := by
  intro i hi
  have hkind : i = .tick ∨ i ∈ [Instr.ovfRx, .ovfTx, .ovfBoth] ∨ i = .rxDone ∨ i = .txDone := by
    simpa [or_assoc] using hi
  obtain rfl | hovf | rfl | rfl := hkind
  · rw [exec_tick, whenRunning_of_halted s hrun]
  · exact exec_overflow_of_halted hrun i hovf
  · exact exec_rxDone_of_unexpected (by simp [hrun])
  · exact (txDoneEffect s).2 (.inl hrun)

/-- Settles O51: the events of a halted block, the two completions by `dir`, and `NOP_EVENT`. -/
theorem unexpectedEventsAreDropped : Obligations.UnexpectedEventsAreDropped :=
  fun s => ⟨exec_event_of_halted, fun hdir => exec_rxDone_of_unexpected fun hexpected => hdir hexpected.2,
    fun hdir => (txDoneEffect s).2 (.inr hdir), exec_nopEvent s⟩

/-! ### A buffer that has been consumed -/

/-- A cleared status byte says that the CRC failed, so no parameter setting passes the frame (41_framer_validator.md R142). -/
theorem pktValid_of_status_zero (p : Params) (h : pktRead s 19 = 0) : pktValid p s = false := by
  refine Bool.eq_false_iff.mpr fun hvalid => ?_
  have hcrc := ((validateFrame_iff_le p _ _ _).mp hvalid).1
  rw [getElem_pktFrame, h] at hcrc
  exact absurd hcrc (by decide)

theorem pktRead_accept_status : pktRead (accept Config.params s) 19 = 0 := by
  rw [pktRead_congr accept_pkt, pktRead_pktWrite, if_pos rfl]

/-- The status byte of a reply is 0 under every parameter setting (41_framer_validator.md R147). -/
theorem pktRead_tlmOpen_status (p : Params) (s : State) : pktRead (tlmOpen p s) 19 = 0 :=
  pktRead_tlmOpen_of_lt p s (by decide)

/-- `REJECT` touches neither the buffer nor the identity it is compared with. -/
theorem pktValid_reject (p : Params) (s : State) : pktValid p (reject s) = pktValid p s := rfl

/-- An expected reception takes the frame's validity, or the frame had none. -/
theorem pktValid_rxDone (hrun : s.run = true) (hdir : s.dir = .receivingInto) :
    pktValid Config.params (rxDone Config.params s) = false := by
  by_cases hvalid : pktValid Config.params s = true
  · rw [rxDone_of_valid hrun hdir hvalid]
    exact pktValid_of_status_zero _ pktRead_accept_status
  · rw [rxDone_of_invalid hrun hdir hvalid, pktValid_reject]
    exact Bool.eq_false_iff.mpr hvalid

/-- Without a valid frame in the buffer a reception is rejected or dropped, and accepts nothing. -/
theorem rxDone_keeps_of_not_pktValid (h : pktValid Config.params s = false) :
    (rxDone Config.params s).rxCount = s.rxCount ∧ (rxDone Config.params s).chan = s.chan ∧
      (rxDone Config.params s).connState = s.connState := by
  by_cases hexpected : s.run = true ∧ s.dir = .receivingInto
  · rw [rxDone_of_invalid hexpected.1 hexpected.2 (by simp [h])]
    exact ⟨rfl, rfl, rfl⟩
  · rw [rxDone_of_unexpected hexpected]
    exact ⟨rfl, rfl, rfl⟩

/-- Settles O33: a second reception finds a frame that is not valid, and a reply never is. -/
theorem consumedBufferIsNeverValid : Obligations.ConsumedBufferIsNeverValid := by
  refine ⟨fun s t hrun hdir hx => ?_, fun p s => pktValid_of_status_zero p (pktRead_tlmOpen_status p s)⟩
  cases hx
  have hinvalid := pktValid_rxDone hrun hdir
  exact ⟨hinvalid, _, exec_rxDone _, rxDone_keeps_of_not_pktValid hinvalid⟩

/-! ### Two operations in one sample -/

theorem serveAll_two_of_exec (hi : exec i (beginOp s) = .next u) (hj : exec j (beginOp u) = .next t) :
    serveAll [i, j] s = .next t := by
  rw [serveAll_cons_of_exec hi, serveAll_cons_of_exec hj, serveAll]

theorem serveAll_script_eq {ops : List Instr} (h : serveAll ops s = .next t) : t.script = s.script := by
  induction ops generalizing s with
  | nil => cases h; rfl
  | cons i ops ih =>
    obtain ⟨u, hu⟩ := exec_total i (beginOp s)
    rw [serveAll_cons_of_exec hu] at h
    exact (ih h).trans ((exec_script_eq hu).trans (beginOp_script s))

/-- The steps of a sample, from what its operations do on the state without it (30_encoding.md R89). -/
theorem run_of_serveAll {smp : Sample} {ops : List Instr} (hs : s.script = .sample smp :: tail) (hops : sampleOps smp = ops)
    (hne : ops ≠ []) (h : serveAll ops { s with script := tail } = .next t) :
    Host.Core.run core ops.length s = .next t ∧ t.script = tail := by
  subst hops
  exact ⟨(sampleServedInRuleOrder s smp tail hs hne).trans h, serveAll_script_eq h⟩

/-- The expiring tick is the hop event (40_hop_scheduler.md R121), which does not look at the timer. -/
theorem exec_tick_expiring (hrun : s.run = true) (h : s.hopTimer = 1) : exec .tick s = .next (hop Config.params s) := by
  rw [exec_tick_of_one hrun h, exec_hop, whenRunning_of_run _ (by exact hrun), hop_hopTimer]

/-! ### What a hop event reports -/

theorem hop_pktSeen : (hop Config.params s).pktSeen = false := by rw [hop_rec]

/-- An interval with a frame is no miss (43_loss_detector.md R181). -/
theorem hop_missedCount_of_seen (h : s.pktSeen = true) : (hop Config.params s).missedCount = s.missedCount := by
  rw [hop_rec]; exact if_pos h

/-- `FrameLost` reports an interval without a frame, and nothing else (43_loss_detector.md R181). -/
theorem frameLost_mem_hop_out :
    .frameLost ∈ (hop Config.params s).out ↔ .frameLost ∈ s.out ∨ s.pktSeen = false := by
  rw [hop_rec]
  simp

/-- `Log(5)` reports a transmission that is still under way, and nothing else (44_telemetry_arbiter.md R205). -/
theorem logTimeout_mem_hop_out :
    .log 5 ∈ (hop Config.params s).out ↔ .log 5 ∈ s.out ∨ s.dir = .transmittingFrom := by
  rw [hop_rec]
  simp

/-- The TransmitTimeout flag goes with `Log(5)` (60_exceptions.md R240). -/
theorem hop_err_timeout :
    (hop Config.params s).err.getLsbD 4 = (s.err.getLsbD 4 || decide (s.dir = .transmittingFrom)) := by
  rw [hop_rec]
  simp [apply_ite (fun flags : BitVec 6 => flags[4])]

/-- The first command of a hop event cancels whatever was armed (40_hop_scheduler.md R123 line 7). -/
theorem hop_radio_head (h : s.radio = []) : (hop Config.params s).radio.head? = some .setIdle := by
  rw [hop_rec]; simp [h]

theorem hop_script : (hop Config.params s).script = s.script := by rw [hop_rec]

/-! ### A frame before the expiring tick -/

theorem accept_run : (accept Config.params s).run = s.run := by rw [accept_rec]

theorem accept_hopCounter : (accept Config.params s).hopCounter = s.hopCounter := by rw [accept_rec]

theorem accept_missedCount : (accept Config.params s).missedCount = s.missedCount := by rw [accept_rec]

theorem accept_hopTimer_of_locked (h : s.connState = .locked) : (accept Config.params s).hopTimer = s.hopTimer := by
  rw [accept_rec]; exact if_pos h

/-- The frame that locks loads 9, of which the tick takes one (43_loss_detector.md R182). -/
theorem serveAll_locking_frame_then_tick (hrun : s.run = true) (hdir : s.dir = .receivingInto)
    (hvalid : pktValid Config.params s = true) (hunlocked : s.connState ≠ .locked) :
    serveAll [.rxDone, .tick] s = .next { beginOp (accept Config.params (beginOp s)) with hopTimer := 8 } := by
  have hframe := exec_rxDone_of_valid (s := beginOp s) hrun hdir hvalid
  have htimer : (beginOp (accept Config.params (beginOp s))).hopTimer = 9 :=
    (beginOp_hopTimer _).trans (accept_hopTimer_of_unlocked (s := beginOp s) hunlocked)
  have htick := exec_tick_of_one_lt (s := beginOp (accept Config.params (beginOp s)))
    ((beginOp_run _).trans ((accept_run (s := beginOp s)).trans hrun)) (by rw [htimer]; decide)
  rw [htimer] at htick
  exact serveAll_two_of_exec hframe htick

/-- While locked the frame leaves the timer at 1, and the tick is the hop event. -/
theorem serveAll_locked_frame_then_expiring_tick (hrun : s.run = true) (hdir : s.dir = .receivingInto)
    (hvalid : pktValid Config.params s = true) (hlocked : s.connState = .locked) (htimer : s.hopTimer = 1) :
    serveAll [.rxDone, .tick] s = .next (hop Config.params (beginOp (accept Config.params (beginOp s)))) := by
  have hframe := exec_rxDone_of_valid (s := beginOp s) hrun hdir hvalid
  have htick := exec_tick_expiring (s := beginOp (accept Config.params (beginOp s)))
    ((beginOp_run _).trans ((accept_run (s := beginOp s)).trans hrun))
    ((beginOp_hopTimer _).trans ((accept_hopTimer_of_locked (s := beginOp s) hlocked).trans htimer))
  exact serveAll_two_of_exec hframe htick

/-- Settles O56: the frame is accepted first, and the tick finds 9 in the timer or a marked interval. -/
theorem frameBeforeExpiringTick : Obligations.FrameBeforeExpiringTick := by
  intro s tail hs hrun hdir htimer hvalid
  have hops : sampleOps { ev := 0b00101 } = [.rxDone, .tick] := by decide
  refine ⟨fun hunlocked => ?_, fun hlocked => ?_⟩
  · obtain ⟨hsteps, hscript⟩ := run_of_serveAll hs hops (by simp)
      (serveAll_locking_frame_then_tick (s := { s with script := tail }) hrun hdir hvalid hunlocked)
    refine ⟨_, hsteps, rfl, ?_, ?_, ?_, ?_, rfl, rfl, hscript⟩
    · rw [beginOp_connState, accept_connState]
    · rw [beginOp_channelIndex, accept_channelIndex, beginOp_channelIndex]
    · rw [beginOp_hopCounter, accept_hopCounter, beginOp_hopCounter]
    · rw [beginOp_pktSeen, accept_pktSeen]
  · obtain ⟨hsteps, hscript⟩ := run_of_serveAll hs hops (by simp)
      (serveAll_locked_frame_then_expiring_tick (s := { s with script := tail }) hrun hdir hvalid hlocked htimer)
    have hseen (u : State) : (beginOp (accept Config.params u)).pktSeen = true := by rw [beginOp_pktSeen, accept_pktSeen]
    refine ⟨_, hsteps, ?_, ?_, ?_, ?_, hscript⟩
    · rw [hop_channelIndex_toNat, beginOp_channelIndex, accept_channelIndex, beginOp_channelIndex]
    · rw [hop_missedCount_of_seen (hseen _), beginOp_missedCount, accept_missedCount, beginOp_missedCount]
    · rw [hop_pktSeen]
    · rw [frameLost_mem_hop_out, hseen]
      simp

/-! ### A `tx_done` before the expiring tick -/

/-- The first step of the sample serves `tx_done`, re-arms the reception and leaves the tick in the sample. -/
theorem step_txDone_before_tick (hs : s.script = .sample { ev := 0b00011 } :: tail) (hrun : s.run = true)
    (hdir : s.dir = .transmittingFrom) :
    step s = .next (armReceive { beginOp s with script := .sample { ev := 0b00001 } :: tail }) := by
  rw [step_of_fetch_some (fetch_sample_ok (i := .txDone) (rest := { ev := 0b00001 }) hs rfl)]
  exact (txDoneEffect _).1 hrun hdir

/-- A sample with nothing but an expiring tick takes one step, the hop event. -/
theorem step_expiring_tick (hs : s.script = .sample { ev := 0b00001 } :: tail) (hrun : s.run = true) (htimer : s.hopTimer = 1) :
    step s = .next (hop Config.params { beginOp s with script := tail }) := by
  have hover : putBack {} tail = tail := putBack_error (decodeSample_quiet {})
  rw [step_of_fetch_some (fetch_sample_ok (i := .tick) (rest := {}) hs rfl), hover]
  exact exec_tick_expiring hrun htimer

/-- Settles O57: the hop event finds the reception that `TX_DONE` has re-armed, and no transmission. -/
theorem txDoneBeforeExpiringTick : Obligations.TxDoneBeforeExpiringTick := by
  intro s tail hs hrun hdir htimer
  refine ⟨_, _, step_txDone_before_tick hs hrun hdir, rfl, rfl, step_expiring_tick rfl hrun htimer, ?_, ?_, ?_, ?_, ?_⟩
  · rw [hop_channelIndex_toNat]; rfl
  · rw [logTimeout_mem_hop_out]; simp [armReceive_eq]
  · rw [hop_err_timeout]; simp [armReceive_eq]
  · rw [hop_radio_head rfl]
  · rw [hop_script]

/-! ### A host command before the events -/

/-- The host command heads the operations of its sample (30_encoding.md R89). -/
theorem sampleOps_head_of_host {smp : Sample} (hrst : smp.rst = false) (hh : decodeHost smp.hw = .ok i) :
    (sampleOps smp).head? = some i := by
  rw [sampleOps_eq, decodeSample_host hrst hh]; rfl

/-- The tick counts down from the 500 that `START` loads (45_system_ops.md R221). -/
theorem serveAll_start_then_tick (hrun : s.run = false) :
    serveAll [.start, .tick] s = .next { beginOp (startBlock (beginOp s)) with hopTimer := 499 } := by
  have htimer : (beginOp (startBlock (beginOp s))).hopTimer = 500 := rfl
  have htick := exec_tick_of_one_lt (s := beginOp (startBlock (beginOp s))) rfl (by rw [htimer]; decide)
  exact serveAll_two_of_exec (exec_start_of_halted hrun) htick

/-- A frame that comes with `STOP` finds a halted block and is dropped (60_exceptions.md R254). -/
theorem serveAll_stop_then_rxDone (hrun : s.run = true) :
    serveAll [.stop, .rxDone] s = .next (beginOp (stopBlock (beginOp s))) :=
  serveAll_two_of_exec (exec_stop_of_run hrun) (exec_rxDone_of_unexpected nofun)

/-- Settles O58: the head of the list of operations, and the two examples. -/
theorem hostBeforeEvents : Obligations.HostBeforeEvents := by
  refine ⟨fun smp i => sampleOps_head_of_host, fun s tail => ⟨fun hs hrun => ?_, fun hs hrun => ?_⟩⟩
  · have hops : sampleOps { hw := 0x2000001, ev := 0b00001 } = [.start, .tick] := by decide
    obtain ⟨hsteps, hscript⟩ := run_of_serveAll hs hops (by simp) (serveAll_start_then_tick hrun)
    exact ⟨_, hsteps, rfl, rfl, hscript⟩
  · have hops : sampleOps { hw := 0x2000000, ev := 0b00100 } = [.stop, .rxDone] := by decide
    obtain ⟨hsteps, hscript⟩ := run_of_serveAll hs hops (by simp) (serveAll_stop_then_rxDone hrun)
    exact ⟨_, hsteps, rfl, rfl, rfl, rfl, hscript⟩

end Sys2Proof.Machine
end
